-- ==== Sys2Proof/Word.lean ====
section
/-! DEFINITION. Words of the PL-24: the byte that travels on the loop (chapter 10) and the
16-bit counter (00_scope.md, "Counters"). -/

namespace Sys2Proof

/-- One byte of the loop traffic, and every quantity the manual gives the range 0-255. -/
abbrev Byte := BitVec 8

/-- The value of one of the ten counters, 0-65535. -/
abbrev Count := BitVec 16

/-- One of the 24 general lines L0-L23. -/
abbrev Line := Fin 24

end Sys2Proof
end

