-- ==== Sys2Proof/Config.lean ====
section
/-! DEFINITION. What the manual leaves open and nothing in the model may fix: free values, without a body. -/

namespace Sys2Proof

/-- FREE VALUE (entry 3). The `n`-th choice the manual leaves open: whether a short RESET pulse is
recognised (R16), which of two notices of one header is appended first (R26, R54), whether a
COMMIT_DONE or a timeout go-back of one frame event is taken first (R67, R76), and which producer's
report of one pass is appended next (R113). It has no body, so every claim holds for either answer.
Safe. -/
opaque Config.orderChoice : Nat → Bool

end Sys2Proof
end

