-- ==== Sys2Proof/Syntax.lean ====
section
/-! DEFINITION. The commands the PL-24 takes: one constructor per row of spec/opcode_table.json, with the operands the
rules give each (the table itself gives none; entry 7). -/

namespace Sys2Proof

/-- The six bytes of a header, in the order they arrive (R193). -/
structure HeaderBytes where
  kind  : Byte
  cycle : Byte
  epoch : Byte
  hop   : Byte
  slots : Byte
  check : Byte
  deriving DecidableEq, Repr

/-- The seven payload bytes 0-6 of a slot (10.3). -/
structure Payload where
  p0 : Byte
  p1 : Byte
  p2 : Byte
  p3 : Byte
  p4 : Byte
  p5 : Byte
  p6 : Byte
  deriving DecidableEq, Repr

/-- The ten bytes of a slot, in the order they arrive (10.3). -/
structure SlotBytes where
  kind    : Byte
  tag     : Byte
  payload : Payload
  check   : Byte
  deriving DecidableEq, Repr

/-- The five argument bytes a0-a4 of a management request (10.3). -/
structure Args where
  a0 : Byte
  a1 : Byte
  a2 : Byte
  a3 : Byte
  a4 : Byte
  deriving DecidableEq, Repr

/-- What the outside shows of the 24 pins at the instant a command senses them (entry 10): bit n of `held` says that the
board holds pin n, bit n of `level` at which level (for a pin nobody holds, the level it floats to),
and `pwmStep` is the step of the pulse-width period then running, of its 255 equal steps (R91). -/
structure PinView where
  held    : BitVec 24
  level   : BitVec 24
  pwmStep : Fin 255
  deriving DecidableEq, Repr

/-- How long RESET is held low (R16): at least 2 µs, or less. -/
inductive LowPulse where
  | full
  | short
  deriving DecidableEq, Repr

/-- The 27 management requests (09, R168) and a code that is none of them. -/
inductive Request where
  | info | status | counter | nodeReset | blockReset | loopSet | loopGet | start | stop
  | mapWrite | mapRead | mapCommit | resync | flush | lineWrite | lineRead
  | scanSet | scanGet | keysRead | contactsRead
  | effectWrite | effectRead | segmentWrite | segmentRead
  | channelSet | channelGet | channelDrive
  | unknown (code : Byte)
  deriving DecidableEq, Repr

/-- The commands of the block, in the order of spec/opcode_table.json. A request carries its slot's tag, its token and its
five argument bytes. -/
inductive Instr where
  | powerOnReset
  | pinReset (pulse : LowPulse)
  | resetReleased
  | startUpComplete
  | startMark (tail : List Byte)
  | headerArrival (h : HeaderBytes)
  | timeoutGoBack
  | commitCarriedOut
  | slotArrival (b : SlotBytes) (v : PinView)
  | endMark (tail : List Byte)
  | markTimerExpiry
  | silenceTimerExpiry
  | outageTimerStep
  | passStart
  | columnSettled (v : PinView)
  | passCompletion (v : PinView)
  | indicatorTick
  | glideEnd (ch : Fin 16)
  | segmentEnd (ch : Fin 16)
  | pulseWidthPeriod
  | info (tag token : Byte) (a : Args)
  | status (tag token : Byte) (a : Args)
  | counter (tag token : Byte) (a : Args)
  | nodeReset (tag token : Byte) (a : Args)
  | nodeResetTakesPlace
  | blockReset (tag token : Byte) (a : Args)
  | loopSet (tag token : Byte) (a : Args)
  | loopGet (tag token : Byte) (a : Args)
  | start (tag token : Byte) (a : Args)
  | stop (tag token : Byte) (a : Args)
  | mapWrite (tag token : Byte) (a : Args)
  | mapRead (tag token : Byte) (a : Args)
  | mapCommit (tag token : Byte) (a : Args)
  | resync (tag token : Byte) (a : Args)
  | flush (tag token : Byte) (a : Args)
  | lineWrite (tag token : Byte) (a : Args)
  | lineRead (tag token : Byte) (a : Args) (v : PinView)
  | scanSet (tag token : Byte) (a : Args)
  | scanGet (tag token : Byte) (a : Args)
  | keysRead (tag token : Byte) (a : Args)
  | contactsRead (tag token : Byte) (a : Args)
  | effectWrite (tag token : Byte) (a : Args)
  | effectRead (tag token : Byte) (a : Args)
  | segmentWrite (tag token : Byte) (a : Args)
  | segmentRead (tag token : Byte) (a : Args)
  | channelSet (tag token : Byte) (a : Args)
  | channelGet (tag token : Byte) (a : Args)
  | channelDrive (tag token : Byte) (a : Args)
  | unknownRequest (tag token code : Byte) (a : Args)
  | powerLoss
  deriving DecidableEq, Repr

/-- The management request a command carries, where it is a row for one. -/
def Instr.request? : Instr → Option Request
  | .info _ _ _ => some .info
  | .status _ _ _ => some .status
  | .counter _ _ _ => some .counter
  | .nodeReset _ _ _ => some .nodeReset
  | .blockReset _ _ _ => some .blockReset
  | .loopSet _ _ _ => some .loopSet
  | .loopGet _ _ _ => some .loopGet
  | .start _ _ _ => some .start
  | .stop _ _ _ => some .stop
  | .mapWrite _ _ _ => some .mapWrite
  | .mapRead _ _ _ => some .mapRead
  | .mapCommit _ _ _ => some .mapCommit
  | .resync _ _ _ => some .resync
  | .flush _ _ _ => some .flush
  | .lineWrite _ _ _ => some .lineWrite
  | .lineRead _ _ _ _ => some .lineRead
  | .scanSet _ _ _ => some .scanSet
  | .scanGet _ _ _ => some .scanGet
  | .keysRead _ _ _ => some .keysRead
  | .contactsRead _ _ _ => some .contactsRead
  | .effectWrite _ _ _ => some .effectWrite
  | .effectRead _ _ _ => some .effectRead
  | .segmentWrite _ _ _ => some .segmentWrite
  | .segmentRead _ _ _ => some .segmentRead
  | .channelSet _ _ _ => some .channelSet
  | .channelGet _ _ _ => some .channelGet
  | .channelDrive _ _ _ => some .channelDrive
  | .unknownRequest _ _ c _ => some (.unknown c)
  | .powerOnReset => none
  | .pinReset _ => none
  | .resetReleased => none
  | .startUpComplete => none
  | .startMark _ => none
  | .headerArrival _ => none
  | .timeoutGoBack => none
  | .commitCarriedOut => none
  | .slotArrival _ _ => none
  | .endMark _ => none
  | .markTimerExpiry => none
  | .silenceTimerExpiry => none
  | .outageTimerStep => none
  | .passStart => none
  | .columnSettled _ => none
  | .passCompletion _ => none
  | .indicatorTick => none
  | .glideEnd _ => none
  | .segmentEnd _ => none
  | .pulseWidthPeriod => none
  | .nodeResetTakesPlace => none
  | .powerLoss => none

end Sys2Proof
end

