-- ==== Sys2Proof/Decode.lean ====
section
/-! DEFINITION. The codes of chapter 10 read as names: frame kinds, slot kinds, request codes; and
the decoder of the opcode table's own words, which names no command, because no row of the table
gives bits. -/

namespace Sys2Proof

/-- The two known frame kinds (R2, 10.2). -/
inductive FrameKind where
  | normal
  | enumerate
  deriving DecidableEq, Repr

/-- The frame kind of a header's byte 0 (R193); none for an unknown kind. -/
def FrameKind.ofCode (c : Byte) : Option FrameKind :=
  if c = 0x01 then some .normal else if c = 0x02 then some .enumerate else none

/-- The six known slot kinds (R3, 10.3). -/
inductive SlotKind where
  | void
  | data
  | container
  | ackList
  | mgmt
  | mgmtReply
  deriving DecidableEq, Repr

/-- The slot kind codes of 10.3. -/
def SlotKind.code : SlotKind → Byte
  | .void => 0x00
  | .data => 0x01
  | .container => 0x02
  | .ackList => 0x03
  | .mgmt => 0x04
  | .mgmtReply => 0x05

/-- The slot kind of a slot's byte 0 (R194); none for 0x06-0xFF (R6). -/
def SlotKind.ofCode (c : Byte) : Option SlotKind :=
  [SlotKind.void, .data, .container, .ackList, .mgmt, .mgmtReply].find? fun k => k.code == c

/-- The request codes of 10.4. -/
def Request.code : Request → Byte
  | .info => 0x01
  | .status => 0x02
  | .counter => 0x03
  | .nodeReset => 0x04
  | .blockReset => 0x05
  | .loopSet => 0x06
  | .loopGet => 0x07
  | .start => 0x08
  | .stop => 0x09
  | .mapWrite => 0x10
  | .mapRead => 0x11
  | .mapCommit => 0x12
  | .resync => 0x18
  | .flush => 0x19
  | .lineWrite => 0x20
  | .lineRead => 0x21
  | .scanSet => 0x28
  | .scanGet => 0x29
  | .keysRead => 0x2A
  | .contactsRead => 0x2B
  | .effectWrite => 0x30
  | .effectRead => 0x31
  | .segmentWrite => 0x32
  | .segmentRead => 0x33
  | .channelSet => 0x38
  | .channelGet => 0x39
  | .channelDrive => 0x3A
  | .unknown c => c

/-- The 27 known requests, in the order of 10.4. -/
def Request.known : List Request :=
  [.info, .status, .counter, .nodeReset, .blockReset, .loopSet, .loopGet, .start, .stop,
   .mapWrite, .mapRead, .mapCommit, .resync, .flush, .lineWrite, .lineRead,
   .scanSet, .scanGet, .keysRead, .contactsRead,
   .effectWrite, .effectRead, .segmentWrite, .segmentRead,
   .channelSet, .channelGet, .channelDrive]

/-- The request a code names (R168): the known request of that code, or an unknown one. -/
def Request.ofCode (c : Byte) : Request :=
  (Request.known.find? fun r => r.code == c).getD (.unknown c)

/-- The command that a word spells by the table's bits. No row of spec/opcode_table.json gives bits,
so no word spells one (entry 13). -/
def decodeTableWord (_nbits _w : Nat) : Option Instr := none

end Sys2Proof
end

