-- ==== Sys2Proof/Machine/State.lean ====
section
/-! DEFINITION. The state of the PL-24, block by block, as plain data, and State.reset. Each field's rule and reset value
stand in INVENTORY.md under "State". -/

namespace Sys2Proof.Machine

/-! ## Supply, reset and the loop port (chapter 1) -/

/-- Where the node stands between supply and operation (R15, R16). -/
inductive Phase where
  /-- No supply: the node drives nothing. -/
  | unpowered
  /-- RESET is held low: the node is held in reset. -/
  | heldInReset
  /-- The start-up that ends a power-on or pin reset. -/
  | starting
  /-- Start-up is complete. -/
  | operating
  deriving DecidableEq, Repr

/-- What the BYPASS pin drives (R15). -/
inductive BypassOut where
  | asserted
  | released
  | undriven
  deriving DecidableEq, Repr

/-- Whether the port has found frame structure on its input (1.3). -/
inductive LinkState where
  | searching
  | locked
  deriving DecidableEq, Repr

/-- The frame in progress (R1). -/
inductive FrameRecord where
  /-- No frame: bytes are idle-line content. -/
  | noFrame
  /-- A start mark has come and the header has not. -/
  | header
  /-- The header has come: its slot count S, the index of the slot now arriving, and the frame's kind
  where it is being delivered. -/
  | slots (count : Byte) (index : Nat) (delivered : Option FrameKind)
  deriving DecidableEq, Repr

/-- One part of the line stream as the port sends it on (R7). -/
inductive LoopPart where
  | startMark (tail : List Byte)
  | header (h : HeaderBytes)
  | slot (b : SlotBytes)
  | endMark (tail : List Byte)
  deriving DecidableEq, Repr

/-- What LOUT carries for the part that arrived last. -/
inductive LoopOut where
  | undriven
  | idle
  | part (p : LoopPart)
  deriving DecidableEq, Repr

/-- The loop port's state (R1, R10 to R13, R16) but for its counters. -/
structure Port where
  link        : LinkState
  badRun      : Fin 3
  markTimer   : Nat
  searchCount : Byte
  frame       : FrameRecord
  loopOut     : LoopOut
  deriving DecidableEq, Repr

/-- The port after power-on and pin reset (R16): SEARCHING, timers at 0, no frame, LOUT idle. -/
def Port.reset : Port :=
  { link := .searching, badRun := 0, markTimer := 0, searchCount := 0, frame := .noFrame, loopOut := .idle }

/-! ## Node controller (chapter 2) -/

/-- The four node states (R19). -/
inductive NodeState where
  | unaddressed
  | ready
  | running
  | fallback
  deriving DecidableEq, Repr

/-- Why line map validation fails (R96 to R98). -/
inductive StartReason where
  | duplicateLine
  | gap
  | halfMatrix
  deriving DecidableEq, Repr

/-- The node controller's state (R19, R31, R26, R36), and whether a taken NODE RESET awaits the
sending-on of its slot (R184). -/
structure NodeCtl where
  state          : NodeState
  position       : Option Byte
  epoch          : Option Byte
  silenceTimer   : Option Nat
  silenceTimeout : Byte
  outageTimer    : Byte
  lastFallback   : Byte
  startRefused   : Option (StartReason × Line)
  resetDue       : Bool
  deriving DecidableEq, Repr

/-- The node controller after every reset of the node (R37). -/
def NodeCtl.reset : NodeCtl :=
  { state := .unaddressed, position := none, epoch := none, silenceTimer := none, silenceTimeout := 20,
    outageTimer := 0, lastFallback := 0, startRefused := none, resetDue := false }

/-! ## Slot map (chapter 3) -/

/-- LEVEL or EFFECT: what a take or a drive asks of a channel (3.1). -/
inductive DriveMode where
  | level
  | effect
  deriving DecidableEq, Repr

/-- The fields of a TAKE entry (R38). `wide` is width 2. -/
structure TakeEntry where
  offset     : Fin 7
  wide       : Bool
  channel    : Fin 16
  mode       : DriveMode
  changeOnly : Bool
  deriving DecidableEq, Repr

/-- One slot map entry (R38). -/
inductive MapEntry where
  | pass
  | take (t : TakeEntry)
  | offer
  deriving DecidableEq, Repr

/-- A value of width 1, or the pair of width 2, first byte first (R39, R42). -/
inductive TakeValue where
  | one (b : Byte)
  | two (first second : Byte)
  deriving DecidableEq, Repr

/-- The slot map's state (R38, R39, R52). -/
structure SlotMap where
  active        : Vector MapEntry 48
  staging       : Vector MapEntry 48
  lastValues    : Vector (Option TakeValue) 48
  commitPending : Bool
  deriving DecidableEq, Repr

/-- No last value at any entry (R48). -/
def noLastValues : Vector (Option TakeValue) 48 := Vector.replicate 48 none

/-- The slot map after the resets of R59: both maps all PASS. -/
def SlotMap.reset : SlotMap :=
  { active := Vector.replicate 48 .pass, staging := Vector.replicate 48 .pass,
    lastValues := noLastValues, commitPending := false }

/-! ## Report queue (chapter 4) -/

/-- A report's kind with its source, value and extra fields (R60). -/
inductive ReportBody where
  | keyDown (code : Fin 64)
  | keyUp (code : Fin 64)
  | contact (index : Fin 8) (active : Bool)
  | overrun (lost : Byte)
  | commitDone
  | effectEnd (effect : Fin 32) (channel : Fin 16)
  | loopResumed (outage : Byte)
  deriving DecidableEq, Repr

/-- The two delivery states of a report (R60). -/
inductive Delivery where
  | waiting
  | sent
  deriving DecidableEq, Repr

/-- One report of the queue (R60). -/
structure Report where
  seq      : Byte
  body     : ReportBody
  cycle    : Byte
  status   : Delivery
  everSent : Bool
  retries  : BitVec 3
  deriving DecidableEq, Repr

/-- The report queue's state (R60 to R64, R71, R76, R78, R83), oldest report first. -/
structure Queue where
  reports       : List Report
  nextSeq       : Byte
  lost          : Byte
  stalled       : Bool
  ackTimer      : Option Nat
  offerCount    : Nat
  currentCycle  : Byte
  window        : Byte
  retryInterval : Byte
  retryLimit    : Byte
  offerLimit    : Byte
  deriving DecidableEq, Repr

/-- The queue after power-on and pin reset (R86). -/
def Queue.reset : Queue :=
  { reports := [], nextSeq := 0, lost := 0, stalled := false, ackTimer := none, offerCount := 0,
    currentCycle := 0, window := 8, retryInterval := 4, retryLimit := 3, offerLimit := 2 }

/-! ## Line map (chapter 5) -/

/-- The pull option of a CONTACT line (R88). -/
inductive Pull where
  | none
  | up
  | down
  deriving DecidableEq, Repr

/-- The polarity option of a CONTACT or INDICATOR line (R88). -/
inductive Polarity where
  | activeHigh
  | activeLow
  deriving DecidableEq, Repr

/-- The drive option of an INDICATOR line (R88). -/
inductive Drive where
  | pushPull
  | sinkOnly
  | sourceOnly
  deriving DecidableEq, Repr

/-- One line entry: a function with the fields that function holds (R88). -/
inductive LineEntry where
  | unused
  | row (index : Fin 8)
  | column (index : Fin 8)
  | contact (index : Fin 8) (pull : Pull) (polarity : Polarity)
  | indicator (channel : Fin 16) (drive : Drive) (polarity : Polarity)
  deriving DecidableEq, Repr

/-- The line map and the levels its lines show in the running pulse-width period (R88, R91). -/
structure LineMap where
  entries : Vector LineEntry 24
  shown   : Vector Byte 16
  deriving DecidableEq, Repr

/-- The line map after power-on and pin reset (R100): every entry NONE. -/
def LineMap.reset : LineMap :=
  { entries := Vector.replicate 24 .unused, shown := Vector.replicate 16 0 }

/-! ## Key matrix scanner (chapter 6) -/

/-- A key record: its state, with the pass count in the two pending states, where alone it is not 0 (R101). -/
inductive KeyState where
  | up
  | pressPending (count : Nat)
  | down
  | releasePending (count : Nat)
  | blocked
  deriving DecidableEq, Repr

/-- A pass in progress: the column being read, and bit k of `closed` set where key code k has read closed (R101, R106). -/
structure Pass where
  column : Nat
  closed : BitVec 64
  deriving DecidableEq, Repr

/-- The scanner's state (R101), with what the line map handed it at the enable (R99). R and C are the
lengths of the two line lists. -/
structure Scanner where
  enabled      : Bool
  rowLines     : List Line
  columnLines  : List Line
  contactLines : Vector (Option (Line × Polarity)) 8
  passTimer    : Option Nat
  pass         : Option Pass
  keys         : Vector KeyState 64
  interval     : Byte
  debounce     : Byte
  deriving DecidableEq, Repr

/-- Every key record UP with count 0. -/
def allKeysUp : Vector KeyState 64 := Vector.replicate 64 .up

/-- The scanner after every reset of the node (R119). -/
def Scanner.reset : Scanner :=
  { enabled := false, rowLines := [], columnLines := [], contactLines := Vector.replicate 8 none,
    passTimer := none, pass := none, keys := allKeysUp, interval := 5, debounce := 3 }

/-! ## Dedicated contacts (chapter 7) -/

/-- Which changes of a contact are reported (R120). -/
inductive Sense where
  | off
  | onActivate
  | onRelease
  | onBoth
  | whileActive
  deriving DecidableEq, Repr

/-- A contact's filtered state (R120). -/
inductive Filtered where
  | unknown
  | inactive
  | active
  deriving DecidableEq, Repr

/-- One contact (R120). `lastRaw` is set for ACTIVE. -/
structure Contact where
  sense    : Sense
  filter   : BitVec 4
  filtered : Filtered
  agree    : BitVec 4
  lastRaw  : Bool
  held     : Bool
  queued   : Nat
  deriving DecidableEq, Repr

/-- A contact after every reset of the node (R134). -/
def Contact.reset : Contact :=
  { sense := .off, filter := 2, filtered := .unknown, agree := 0, lastRaw := false, held := false, queued := 0 }

/-! ## Indicator engine (chapter 8) -/

/-- The end action of an effect with its end value; HOLD keeps the value it was written with (R135, R152). -/
inductive EndAction where
  | hold (value : Byte)
  | level (value : Byte)
  | chain (effect : Fin 32)
  deriving DecidableEq, Repr

/-- One effect record (R135). -/
structure EffectRecord where
  first       : Fin 128
  count       : Fin 9
  repeatCount : Byte
  endAction   : EndAction
  notify      : Bool
  deriving DecidableEq, Repr

/-- An effect record after the resets of R135. -/
def EffectRecord.reset : EffectRecord :=
  { first := 0, count := 0, repeatCount := 1, endAction := .hold 0, notify := false }

/-- One segment (R135). -/
structure Segment where
  target : Byte
  ramp   : Byte
  hold   : Byte
  deriving DecidableEq, Repr

/-- A segment after the resets of R135. -/
def Segment.reset : Segment := { target := 0, ramp := 0, hold := 0 }

/-- A channel's mode with the fields that mode holds (R137). `runsLeft` is none for runs without end. -/
inductive Motion where
  | steady
  | gliding (start target length : Byte) (elapsed : Nat)
  | playing (effect : Fin 32) (position : Nat) (tick : Nat) (segStart : Byte) (runsLeft : Option Byte)
  deriving DecidableEq, Repr

/-- A channel's fallback mode with its value (R137, R156); KEEP stores a value it does not use. -/
inductive FallbackMode where
  | keep (value : Byte)
  | level (value : Byte)
  | effect (effect : Fin 32)
  deriving DecidableEq, Repr

/-- One indicator channel (R137). -/
structure Channel where
  motion   : Motion
  level    : Byte
  fallback : FallbackMode
  deriving DecidableEq, Repr

/-- A channel after every reset of the node (R159). -/
def Channel.reset : Channel := { motion := .steady, level := 0, fallback := .keep 0 }

/-- The indicator engine's state (R135, R137). -/
structure Engine where
  effects  : Vector EffectRecord 32
  segments : Vector Segment 128
  channels : Vector Channel 16
  deriving DecidableEq, Repr

/-- The engine after every reset of the node (R159). -/
def Engine.reset : Engine :=
  { effects := Vector.replicate 32 .reset, segments := Vector.replicate 128 .reset,
    channels := Vector.replicate 16 .reset }

/-! ## Management agent (chapter 9) -/

/-- The statuses of R167. -/
inductive Status where
  | ok
  | pending
  | busy
  | wrongState
  | badIndex
  | badValue
  | inUse
  | invalidConfig
  | unknownRequest
  deriving DecidableEq, Repr

/-- The five data bytes d0-d4 of a reply (10.3). -/
structure ReplyData where
  d0 : Byte
  d1 : Byte
  d2 : Byte
  d3 : Byte
  d4 : Byte
  deriving DecidableEq, Repr

/-- The token cache's entry (R163): the request it was made by, and the reply. The reply's token is the entry's own (R166). -/
structure CacheEntry where
  token  : Byte
  code   : Byte
  args   : Args
  status : Status
  data   : ReplyData
  deriving DecidableEq, Repr

/-- The management agent's state (R163) but for counter 8. -/
structure Agent where
  cache : Option CacheEntry
  deriving DecidableEq, Repr

/-- The agent after every reset of the node (R191). -/
def Agent.reset : Agent := { cache := none }

/-! ## The whole state -/

/-- The state of the block. `freeIndex` and `pending` are the model's own: how many open choices have been taken (entry 3),
and the commands that are waiting, first in, first out. -/
structure State where
  phase       : Phase
  resetPinLow : Bool
  port        : Port
  node        : NodeCtl
  map         : SlotMap
  queue       : Queue
  lines       : LineMap
  scanner     : Scanner
  contacts    : Vector Contact 8
  engine      : Engine
  agent       : Agent
  counters    : Vector Count 10
  freeIndex   : Nat
  pending     : List Instr
  deriving DecidableEq, Repr

/-- The block raises no fault: the manual names no event that stops it (INVENTORY.md, "Faults"). Safe. -/
inductive Fault where
  deriving DecidableEq, Repr

/-- Why a command is refused. -/
inductive Refusal where
  /-- Raised by an arm of `exec` for a command that has no meaning yet; no arm raises it. Safe. -/
  | notModelled (mnemonic : String)
  deriving DecidableEq, Repr

/-- The machine right after power-on reset: every block at the values its chapter states for that
reset, the node in the start-up that follows it, with BYPASS asserted (R15, R16; entry 1). -/
def State.reset : State :=
  { phase := .starting, resetPinLow := false, port := .reset, node := .reset, map := .reset, queue := .reset,
    lines := .reset, scanner := .reset, contacts := Vector.replicate 8 .reset, engine := .reset,
    agent := .reset, counters := Vector.replicate 10 0, freeIndex := 0, pending := [] }

end Sys2Proof.Machine
end

