-- ==== Sys2Proof/Machine/Ops.lean ====
section
/-! DEFINITION. The operations every block's rules are written with: replacing one block of the
state, saturating counts, the ten counters, the open choices, and what the port sends on. -/

namespace Sys2Proof.Machine

/-! ## Replacing one block -/

/-- `s` with `phase` replaced, and nothing else. -/
def State.withPhase (s : State) (x : Phase) : State := { s with phase := x }

/-- `s` with `resetPinLow` replaced, and nothing else. -/
def State.withResetPinLow (s : State) (x : Bool) : State := { s with resetPinLow := x }

/-- `s` with `port` replaced, and nothing else. -/
def State.withPort (s : State) (x : Port) : State := { s with port := x }

/-- `s` with `node` replaced, and nothing else. -/
def State.withNode (s : State) (x : NodeCtl) : State := { s with node := x }

/-- `s` with `map` replaced, and nothing else. -/
def State.withMap (s : State) (x : SlotMap) : State := { s with map := x }

/-- `s` with `queue` replaced, and nothing else. -/
def State.withQueue (s : State) (x : Queue) : State := { s with queue := x }

/-- `s` with `lines` replaced, and nothing else. -/
def State.withLines (s : State) (x : LineMap) : State := { s with lines := x }

/-- `s` with `scanner` replaced, and nothing else. -/
def State.withScanner (s : State) (x : Scanner) : State := { s with scanner := x }

/-- `s` with `contacts` replaced, and nothing else. -/
def State.withContacts (s : State) (x : Vector Contact 8) : State := { s with contacts := x }

/-- `s` with `engine` replaced, and nothing else. -/
def State.withEngine (s : State) (x : Engine) : State := { s with engine := x }

/-- `s` with `agent` replaced, and nothing else. -/
def State.withAgent (s : State) (x : Agent) : State := { s with agent := x }

/-- `s` with `counters` replaced, and nothing else. -/
def State.withCounters (s : State) (x : Vector Count 10) : State := { s with counters := x }

/-- `s` with `freeIndex` replaced, and nothing else. -/
def State.withFreeIndex (s : State) (x : Nat) : State := { s with freeIndex := x }

/-- `s` with `pending` replaced, and nothing else. -/
def State.withPending (s : State) (x : List Instr) : State := { s with pending := x }

/-! ## Tables -/

/-- A table with one entry replaced. -/
def setAt {α : Type} {n : Nat} (v : Vector α n) (i : Fin n) (x : α) : Vector α n := v.set i.val x i.isLt

/-- A number as an index below `n`, where it is one. -/
def finOf (n x : Nat) : Option (Fin n) := if h : x < n then some ⟨x, h⟩ else none

/-! ## Saturating counts and the ten counters (00_scope.md, "Counters") -/

/-- One more, but for the highest value, which a further count leaves as it is. -/
def satInc {w : Nat} (x : BitVec w) : BitVec w := if x = BitVec.allOnes w then x else x + 1

/-- The sum of two bytes, saturating at 255 (R65). -/
def satAdd (x y : Byte) : Byte := if x.toNat + y.toNat < 256 then x + y else 255

/-- Counter 0, header check errors (R14). -/
def ctrHeaderErrors : Fin 10 := 0
/-- Counter 1, slot check errors (R14). -/
def ctrSlotErrors : Fin 10 := 1
/-- Counter 2, unknown kinds (R14). -/
def ctrUnknownKinds : Fin 10 := 2
/-- Counter 3, epoch mismatches (R36). -/
def ctrEpochMismatches : Fin 10 := 3
/-- Counter 4, fallback entries (R36). -/
def ctrFallbackEntries : Fin 10 := 4
/-- Counter 5, stray acks (R85). -/
def ctrStrayAcks : Fin 10 := 5
/-- Counter 6, lost reports total (R85). -/
def ctrLostReports : Fin 10 := 6
/-- Counter 7, bad take values (R58). -/
def ctrBadTakes : Fin 10 := 7
/-- Counter 8, refused requests (R183). -/
def ctrRefused : Fin 10 := 8
/-- Counter 9, good frames (R14). -/
def ctrGoodFrames : Fin 10 := 9

/-- Counter `n` counts one event. -/
def bump (n : Fin 10) (s : State) : State :=
  s.withCounters (setAt s.counters n (satInc (s.counters.get n)))

/-- Counter `n` is set to 0 (R182). -/
def clearCounter (n : Fin 10) (s : State) : State := s.withCounters (setAt s.counters n 0)

/-! ## Open choices, operation, and the loop output -/

/-- The state after one open choice has been taken (entry 3). -/
def tookChoice (s : State) : State := s.withFreeIndex (s.freeIndex + 1)

/-- An event of a node in operation. While the node is unpowered, held in reset or starting it neither repeats nor
examines the loop, and none of its timers, passes and ticks runs (R15, R16, R138). -/
def whenOperating (f : State → State) (s : State) : State := if s.phase = .operating then f s else s

/-- The port sends part `p` on (R7). -/
def sendOn (p : LoopPart) (s : State) : State := s.withPort { s.port with loopOut := .part p }

/-- The frame record is replaced (R1). -/
def setFrame (f : FrameRecord) (s : State) : State := s.withPort { s.port with frame := f }

/-- What BYPASS drives (R15): high while RESET is held low and during start-up, low in operation,
nothing without supply. -/
def State.bypass (s : State) : BypassOut :=
  match s.phase with
  | .unpowered => .undriven
  | .heldInReset => .asserted
  | .starting => .asserted
  | .operating => .released

end Sys2Proof.Machine
end

