-- ==== Sys2Proof/Machine/Formats.lean ====
section
/-! DEFINITION. The byte layouts of chapter 10: the check, headers, slots, the report payload and the reply. -/

namespace Sys2Proof.Machine

/-! ## Bytes -/

/-- The number that `len` bits of a byte form, from bit `lo` up (chapter 10). -/
def bits (b : Byte) (lo len : Nat) : Nat := b.toNat / 2 ^ lo % 2 ^ len

/-- A flag in a byte of its own: 0 clear, 1 set (10.4). -/
def flagByte (b : Bool) : Byte := if b then 1 else 0

/-- A flag read from a code: 0 or 1 (R196). -/
def flagOf (n : Nat) : Option Bool := if n = 0 then some false else if n = 1 then some true else none

/-- A quantity in a byte. -/
def natByte (n : Nat) : Byte := BitVec.ofNat 8 n

/-- The more significant byte of a two-byte value, which travels first (R197). -/
def highByte (n : Nat) : Byte := natByte (n / 256)

/-! ## The check (R192) -/

/-- One of the eight steps of the check register. -/
def crcBit (r : Byte) : Byte := if r.getLsbD 7 then (r <<< 1) ^^^ 0x07 else r <<< 1

/-- One byte taken into the check register. -/
def crcByte (r b : Byte) : Byte :=
  crcBit (crcBit (crcBit (crcBit (crcBit (crcBit (crcBit (crcBit (r ^^^ b))))))))

/-- The check over a part's bytes. -/
def crc8 (bs : List Byte) : Byte := bs.foldl crcByte 0xFF

/-- The check of a header over its bytes 0-4. -/
def headerCheck (h : HeaderBytes) : Byte := crc8 [h.kind, h.cycle, h.epoch, h.hop, h.slots]

/-- The check of a slot over its bytes 0-8. -/
def slotCheck (kind tag : Byte) (p : Payload) : Byte :=
  crc8 [kind, tag, p.p0, p.p1, p.p2, p.p3, p.p4, p.p5, p.p6]

/-- A slot with the check computed over the bytes sent (R8). -/
def makeSlot (k : SlotKind) (tag : Byte) (p : Payload) : SlotBytes :=
  { kind := k.code, tag := tag, payload := p, check := slotCheck k.code tag p }

/-- A header with its hop count replaced and its check computed afresh (R9). -/
def withHop (h : HeaderBytes) (hop : Byte) : HeaderBytes :=
  { h with hop := hop, check := headerCheck { h with hop := hop } }

/-! ## The report payload (R60, R195) -/

/-- A report's kind code. -/
def ReportBody.kindCode : ReportBody → Byte
  | .keyDown _ => 0x01
  | .keyUp _ => 0x02
  | .contact _ _ => 0x03
  | .overrun _ => 0x04
  | .commitDone => 0x05
  | .effectEnd _ _ => 0x05
  | .loopResumed _ => 0x05

/-- A report's source byte. -/
def ReportBody.source : ReportBody → Byte
  | .keyDown k => natByte k.val
  | .keyUp k => natByte k.val
  | .contact i _ => natByte i.val
  | .overrun _ => 0
  | .commitDone => 0x01
  | .effectEnd _ _ => 0x02
  | .loopResumed _ => 0x03

/-- A report's value byte. -/
def ReportBody.value : ReportBody → Byte
  | .keyDown _ => 0
  | .keyUp _ => 0
  | .contact _ active => flagByte active
  | .overrun _ => 0
  | .commitDone => 0
  | .effectEnd e _ => natByte e.val
  | .loopResumed outage => outage

/-- A report's extra byte. -/
def ReportBody.extra : ReportBody → Byte
  | .keyDown _ => 0
  | .keyUp _ => 0
  | .contact _ _ => 0
  | .overrun lost => lost
  | .commitDone => 0
  | .effectEnd _ c => natByte c.val
  | .loopResumed _ => 0

/-- The payload a report travels in; the resent flag is bit 0 of byte 6. -/
def reportPayload (r : Report) (resent : Bool) : Payload :=
  { p0 := r.seq, p1 := r.body.kindCode, p2 := r.body.source, p3 := r.body.value, p4 := r.body.extra,
    p5 := r.cycle, p6 := flagByte resent }

/-! ## Requests and replies (10.3, R197) -/

/-- The status codes of 10.4. -/
def Status.code : Status → Byte
  | .ok => 0x00
  | .pending => 0x01
  | .busy => 0x10
  | .wrongState => 0x11
  | .badIndex => 0x12
  | .badValue => 0x13
  | .inUse => 0x14
  | .invalidConfig => 0x15
  | .unknownRequest => 0x16

/-- The validation reason codes of 10.4. -/
def StartReason.code : StartReason → Byte
  | .duplicateLine => 0x01
  | .gap => 0x02
  | .halfMatrix => 0x03

/-- Five data bytes of 0. -/
def noData : ReplyData := { d0 := 0, d1 := 0, d2 := 0, d3 := 0, d4 := 0 }

/-- The arguments of a request, from payload bytes 2-6 (R196). -/
def argsOf (p : Payload) : Args := { a0 := p.p2, a1 := p.p3, a2 := p.p4, a3 := p.p5, a4 := p.p6 }

/-- The slot that carries a request. -/
def requestSlot (tag token code : Byte) (a : Args) : SlotBytes :=
  makeSlot .mgmt tag { p0 := token, p1 := code, p2 := a.a0, p3 := a.a1, p4 := a.a2, p5 := a.a3, p6 := a.a4 }

/-- The slot that carries a reply: the node's position as tag, the token echoed, status and data (R166, R197). -/
def replySlot (position token : Byte) (st : Status) (d : ReplyData) : SlotBytes :=
  makeSlot .mgmtReply position
    { p0 := token, p1 := st.code, p2 := d.d0, p3 := d.d1, p4 := d.d2, p5 := d.d3, p6 := d.d4 }

/-! ## Named values in data (10.4) -/

/-- The node state codes. -/
def NodeState.code : NodeState → Byte
  | .unaddressed => 0
  | .ready => 1
  | .running => 2
  | .fallback => 3

/-- The take and drive mode codes. -/
def DriveMode.code : DriveMode → Byte
  | .level => 0
  | .effect => 1

/-- The pull codes. -/
def Pull.code : Pull → Byte
  | .none => 0
  | .up => 1
  | .down => 2

/-- The drive codes. -/
def Drive.code : Drive → Byte
  | .pushPull => 0
  | .sinkOnly => 1
  | .sourceOnly => 2

/-- The polarity codes. -/
def Polarity.code : Polarity → Byte
  | .activeHigh => 0
  | .activeLow => 1

/-- The contact sense codes. -/
def Sense.code : Sense → Byte
  | .off => 0
  | .onActivate => 1
  | .onRelease => 2
  | .onBoth => 3
  | .whileActive => 4

/-- The filtered state codes. -/
def Filtered.code : Filtered → Byte
  | .unknown => 0
  | .inactive => 1
  | .active => 2

/-- The channel mode codes. -/
def Motion.code : Motion → Byte
  | .steady => 0
  | .gliding _ _ _ _ => 1
  | .playing _ _ _ _ _ => 2

/-- The fallback mode codes. -/
def FallbackMode.code : FallbackMode → Byte
  | .keep _ => 0
  | .level _ => 1
  | .effect _ => 2

/-- The fallback value as it is shown. -/
def FallbackMode.value : FallbackMode → Byte
  | .keep v => v
  | .level v => v
  | .effect e => natByte e.val

/-- The end action codes. -/
def EndAction.code : EndAction → Byte
  | .hold _ => 0
  | .level _ => 1
  | .chain _ => 2

/-- The end value as it is shown. -/
def EndAction.value : EndAction → Byte
  | .hold v => v
  | .level v => v
  | .chain e => natByte e.val

end Sys2Proof.Machine
end

