-- ==== Sys2Proof/Machine/Queue.lean ====
section
/-! DEFINITION. The report queue (chapter 4): enqueue, discard and overrun, offering and placement, timeout and go-back,
RESYNC and emptying. Acknowledgement, which the contact block takes part in, stands in
Machine/Acknowledge.lean. -/

namespace Sys2Proof.Machine

/-! ## Reading the queue -/

/-- Whether a report is the OVERRUN kind, for which the 32nd place is kept (R60). -/
def ReportBody.isOverrun : ReportBody → Bool
  | .overrun _ => true
  | .keyDown _ => false
  | .keyUp _ => false
  | .contact _ _ => false
  | .commitDone => false
  | .effectEnd _ _ => false
  | .loopResumed _ => false

/-- The number of ordinary reports (R60). -/
def Queue.ordinaryCount (q : Queue) : Nat := (q.reports.filter fun r => !r.body.isOverrun).length

/-- The number of SENT reports (R84). -/
def Queue.sentCount (q : Queue) : Nat := (q.reports.filter fun r => r.status = .sent).length

/-- The oldest report's sequence number, or the next one of an empty queue (R28). -/
def Queue.oldestSeq (q : Queue) : Byte :=
  match q.reports with
  | [] => q.nextSeq
  | r :: _ => r.seq

/-! ## Enqueue (R61 to R65) -/

/-- A report appended at the tail with the next sequence number and the current cycle (R62). -/
def Queue.append (q : Queue) (b : ReportBody) : Queue :=
  { q with
    reports := q.reports ++
      [{ seq := q.nextSeq, body := b, cycle := q.currentCycle, status := .waiting, everSent := false, retries := 0 }]
    nextSeq := q.nextSeq + 1 }

/-- The OVERRUN report in the queue, if there is one (R65). -/
def Queue.overrun? (q : Queue) : Option Report := q.reports.find? fun r => r.body.isOverrun

/-- A report whose lost count grows by `n`, if it is the OVERRUN report (R65). -/
def Report.growLost (n : Byte) (r : Report) : Report :=
  match r.body with
  | .overrun lost => { r with body := .overrun (satAdd lost n) }
  | .keyDown _ => r
  | .keyUp _ => r
  | .contact _ _ => r
  | .commitDone => r
  | .effectEnd _ _ => r
  | .loopResumed _ => r

/-- The overrun handling that follows a discard (R65). -/
def Queue.handleOverrun (q : Queue) : Queue :=
  match q.overrun? with
  | none => { q.append (.overrun q.lost) with lost := 0 }
  | some r =>
    match r.status with
    | .waiting => { q with reports := q.reports.map (Report.growLost q.lost), lost := 0 }
    | .sent => q

/-- An enqueue that is discarded: the lost counter and counter 6 count it, and the overrun handling runs (R64). -/
def discardReport (s : State) : State :=
  bump ctrLostReports (s.withQueue { s.queue with lost := satInc s.queue.lost }.handleOverrun)

/-- Whether an ordinary report finds room: fewer than 31 ordinary reports (R62). -/
def Queue.hasRoom (q : Queue) : Bool := q.ordinaryCount < 31

/-- An enqueue of an ordinary report, and whether the answer is "appended" (R61, R62, R64). -/
def enqueue (b : ReportBody) (s : State) : State × Bool :=
  if s.queue.hasRoom then (s.withQueue (s.queue.append b), true) else (discardReport s, false)

/-- An enqueue whose producer takes no action on the answer (R61). -/
def enqueueOnly (b : ReportBody) (s : State) : State := (enqueue b s).1

/-! ## Go-back and timeout (R76, R77, R79) -/

/-- A report gone back to WAITING, its ever-sent flag and retry count kept (R79). -/
def Report.goBack (r : Report) : Report := { r with status := .waiting }

/-- Every SENT report becomes WAITING and the ack timer stops (R79). -/
def Queue.goBack (q : Queue) : Queue := { q with reports := q.reports.map Report.goBack, ackTimer := none }

/-- The go-back the node controller hands the queue (R23, R32, R79). -/
def goBack (s : State) : State := s.withQueue s.queue.goBack

/-- The oldest report's retry count increments, saturating at 7 (R77). -/
def chargeOldest : List Report → List Report
  | [] => []
  | r :: rs => { r with retries := satInc r.retries } :: rs

/-- Whether the oldest report's retry count exceeds the retry limit Lm (R77). -/
def Queue.oldestOverLimit (q : Queue) : Bool :=
  match q.reports with
  | [] => false
  | r :: _ => q.retryLimit.toNat < r.retries.toNat

/-- The timeout go-back (R77): the oldest report is charged, the queue stalls if its count then exceeds Lm, and every SENT
report goes back. -/
def Queue.timeout (q : Queue) : Queue :=
  let charged := { q with reports := chargeOldest q.reports }
  { charged.goBack with stalled := q.stalled || charged.oldestOverLimit }

/-- Whether the ack timer advances at a frame event: RUNNING and at least one report SENT (R76). -/
def ackTimerRuns (s : State) : Bool := s.node.state = .running && 0 < s.queue.sentCount

/-- The ack timer's value after this frame event's increment (R76). -/
def Queue.nextAckTimer (q : Queue) : Nat := q.ackTimer.getD 0 + 1

/-- Whether this frame event's increment takes the ack timer to the retry interval Rt (R76). -/
def timeoutDue (s : State) : Bool := ackTimerRuns s && s.queue.retryInterval.toNat ≤ s.queue.nextAckTimer

/-- Whether the ack timer, running in RUNNING over a SENT report, has reached Rt and its timeout is still to be made (R76, R77). -/
def Queue.timeoutReached (q : Queue) (st : NodeState) : Bool :=
  st = .running && 0 < q.sentCount && q.retryInterval.toNat ≤ q.ackTimer.getD 0

/-- The report queue's part of a frame event: the ack timer increments, with the timeout go-back where
it reaches Rt (R76, R77). -/
def queueFrameEvent (s : State) : State :=
  if timeoutDue s then s.withQueue s.queue.timeout
  else if ackTimerRuns s then s.withQueue { s.queue with ackTimer := some s.queue.nextAckTimer }
  else s

/-! ## Offering and placement (R68, R69) -/

/-- Whether a free container under an OFFER entry is filled, but for its tag (R68). -/
def mayOffer (s : State) : Bool :=
  s.node.state = .running && !s.queue.stalled && s.queue.offerCount < s.queue.offerLimit.toNat
    && s.queue.sentCount < s.queue.window.toNat && s.queue.reports.any fun r => r.status = .waiting

/-- The oldest WAITING report becomes SENT and ever-sent (R69). -/
def markOldestWaiting : List Report → List Report
  | [] => []
  | r :: rs =>
    match r.status with
    | .waiting => { r with status := .sent, everSent := true } :: rs
    | .sent => r :: markOldestWaiting rs

/-- The oldest WAITING report (R69). -/
def Queue.oldestWaiting? (q : Queue) : Option Report := q.reports.find? fun r => r.status = .waiting

/-- The queue after a placement: the ack timer starts at 0 if no report was SENT before it (R69). -/
def Queue.placed (q : Queue) : Queue :=
  { q with
    reports := markOldestWaiting q.reports
    offerCount := q.offerCount + 1
    ackTimer := if q.sentCount = 0 then some 0 else q.ackTimer }

/-- A CONTAINER slot handed to the queue under OFFER: the state after it, and the replacement where it is filled (R68, R69). -/
def offer (tag : Byte) (s : State) : State × Option SlotBytes :=
  match s.queue.oldestWaiting?, s.node.position with
  | some r, some p =>
    if tag = 0xFF && mayOffer s then
      (s.withQueue s.queue.placed, some (makeSlot .container p (reportPayload r r.everSent)))
    else (s, none)
  | _, _ => (s, none)

/-! ## RESYNC and emptying (R80, R81, R86) -/

/-- A report renumbered by RESYNC (R80). -/
def Report.resynced (r : Report) (seq : Byte) : Report :=
  { r with seq := seq, status := .waiting, everSent := false, retries := 0 }

/-- The reports renumbered in queue order from `x` (R80). -/
def renumber (x : Byte) : List Report → List Report
  | [] => []
  | r :: rs => r.resynced x :: renumber (x + 1) rs

/-- RESYNC (R80). -/
def Queue.resync (q : Queue) (x : Byte) : Queue :=
  { q with
    reports := renumber x q.reports
    nextSeq := x + natByte q.reports.length
    stalled := false
    ackTimer := none }

/-- FLUSH's effect on the queue (R81). -/
def Queue.flush (q : Queue) : Queue :=
  { q with reports := [], lost := 0, stalled := false, ackTimer := none }

/-- BLOCK RESET naming QUEUE, on the queue (R86). -/
def Queue.blockReset (q : Queue) : Queue := { q.flush with nextSeq := 0 }

/-- NODE RESET, on the queue: all as after power-on but the current cycle (R86). -/
def Queue.nodeReset (q : Queue) : Queue := { Queue.reset with currentCycle := q.currentCycle }

end Sys2Proof.Machine
end

