-- ==== Sys2Proof/Machine/Contacts.lean ====
section
/-! DEFINITION. The contact block (chapter 7): filtering, the reports of a pass, what it learns from the queue, and its
disable. -/

namespace Sys2Proof.Machine

/-- One contact replaced. -/
def setContact (i : Fin 8) (c : Contact) (s : State) : State := s.withContacts (setAt s.contacts i c)

/-! ## Filtering (R122, R123) -/

/-- A raw sample as a filtered state. -/
def filteredOf (raw : Bool) : Filtered := if raw then .active else .inactive

/-- The contact after one completed pass with this raw sample: set directly on the first pass, filtered on the later ones
(R121 to R123). -/
def Contact.sampled (c : Contact) (raw : Bool) : Contact :=
  if c.filtered = .unknown then { c with filtered := filteredOf raw, agree := 0, lastRaw := raw }
  else if c.filtered = filteredOf raw then { c with agree := 0, lastRaw := raw }
  else if c.agree.toNat < c.filter.toNat then { c with agree := c.agree + 1, lastRaw := raw }
  else { c with filtered := filteredOf raw, agree := 0, lastRaw := raw }

/-- Whether a contact of this sense reports the change of its filtered state from `old` to `new` (R124). -/
def reportsChange (sense : Sense) (old new : Filtered) : Bool :=
  old ≠ .unknown && old ≠ new &&
    match sense with
    | .off => false
    | .onActivate => new = .active
    | .onRelease => new = .inactive
    | .onBoth => true
    | .whileActive => false

/-- Whether a WHILE_ACTIVE contact makes a report attempt (R125, R126). -/
def Contact.wantsLevelReport (c : Contact) : Bool :=
  c.sense = .whileActive && c.filtered = .active && !c.held && c.queued = 0

/-! ## Reports (R124 to R126) -/

/-- A CONTACT enqueue; when appended, the queued count rises, and for a WHILE_ACTIVE report the held
flag is set (R124, R125). -/
def enqueueContact (i : Fin 8) (active level : Bool) (s : State) : State :=
  match enqueue (.contact i active) s with
  | (s', true) =>
    let c := s'.contacts.get i
    setContact i { c with queued := c.queued + 1, held := c.held || level } s'
  | (s', false) => s'

/-- One removal of a CONTACT report handed to the block, with the re-arm it may make (R126). The held flag clears at a queued count
of 0, as R126 gives it, also where a contact's sense was changed from WHILE_ACTIVE with its flag set and its WHILE_ACTIVE report is
removed before later reports of the contact, which R131 can be read to end the flag at: DESIGN CHOICE (entry 17). -/
def contactRemoval (i : Fin 8) (s : State) : State :=
  let c := s.contacts.get i
  let left := c.queued - 1
  let c' := { c with queued := left, held := c.held && left ≠ 0 }
  let s' := setContact i c' s
  if c'.wantsLevelReport then enqueueContact i true true s' else s'

/-- The removals of one acknowledgement, oldest first (R73, R126). -/
def contactRemovals : List Report → State → State
  | [], s => s
  | r :: rs, s =>
    match r.body with
    | .contact i _ => contactRemovals rs (contactRemoval i s)
    | .keyDown _ => contactRemovals rs s
    | .keyUp _ => contactRemovals rs s
    | .overrun _ => contactRemovals rs s
    | .commitDone => contactRemovals rs s
    | .effectEnd _ _ => contactRemovals rs s
    | .loopResumed _ => contactRemovals rs s

/-! ## Queue emptied, disable (R127, R129) -/

/-- Every queued count becomes 0 and every held flag clears (R127). -/
def queueEmptied (s : State) : State :=
  s.withContacts (Vector.ofFn fun i => { s.contacts.get i with queued := 0, held := false })

/-- The contact block disabled with the scanner (R129); BLOCK RESET naming SCANNER clears the held flags as well. -/
def disableContacts (clearHeld : Bool) (s : State) : State :=
  s.withContacts (Vector.ofFn fun i =>
    let c := s.contacts.get i
    { c with filtered := .unknown, agree := 0, lastRaw := false, held := c.held && !clearHeld })

/-! ## The contact settings -/

/-- The contacts for which `f` holds, as a set: bit i is contact i (10.5). -/
def contactSet (s : State) (f : Contact → Bool) : Byte :=
  natByte ((List.finRange 8).foldl (fun acc i => acc + if f (s.contacts.get i) then 2 ^ i.val else 0) 0)

end Sys2Proof.Machine
end

