-- ==== Sys2Proof/Machine/Operands.lean ====
section
/-! DEFINITION. The operand forms of the requests (10.5): each packed field read from argument bytes, `none` where a
field is out of its range (R196), and written back into data bytes (R197). -/

namespace Sys2Proof.Machine

/-- A take or drive mode (10.4). -/
def driveModeOf (n : Nat) : Option DriveMode :=
  if n = 0 then some .level else if n = 1 then some .effect else none

/-- A width, 1 or 2: whether it is 2. -/
def wideOf (n : Nat) : Option Bool := if n = 1 then some false else if n = 2 then some true else none

/-- A pull option. -/
def pullOf (n : Nat) : Option Pull :=
  if n = 0 then some .none else if n = 1 then some .up else if n = 2 then some .down else none

/-- A drive option. -/
def driveOf (n : Nat) : Option Drive :=
  if n = 0 then some .pushPull else if n = 1 then some .sinkOnly else if n = 2 then some .sourceOnly else none

/-- A polarity option. -/
def polarityOf (n : Nat) : Option Polarity :=
  if n = 0 then some .activeHigh else if n = 1 then some .activeLow else none

/-- A contact sense. -/
def senseOf (n : Nat) : Option Sense :=
  if n = 0 then some .off else if n = 1 then some .onActivate else if n = 2 then some .onRelease
  else if n = 3 then some .onBoth else if n = 4 then some .whileActive else none

/-- The filter passes F, 0-15 (R131). -/
def filterOf (b : Byte) : Option (BitVec 4) := if b.toNat < 16 then some (BitVec.ofNat 4 b.toNat) else none

/-! ## Slot map entries -/

/-- The entry that E0, E1 and E2 give (R49, 10.5). For PASS and OFFER the TAKE fields are not examined. -/
def mapEntryOf (e0 e1 e2 : Byte) : Option MapEntry :=
  if bits e0 0 2 = 0 then some .pass
  else if bits e0 0 2 = 2 then some .offer
  else if bits e0 0 2 = 1 then do
    let offset ← finOf 7 (bits e1 4 4)
    let wide ← wideOf (bits e1 0 4)
    let channel ← finOf 16 e2.toNat
    let mode ← driveModeOf (bits e0 2 2)
    let changeOnly ← flagOf (bits e0 4 2)
    pure (.take { offset, wide, channel, mode, changeOnly })
  else none

/-- E0 of an entry in a reply, bit 6 clear. -/
def MapEntry.e0 : MapEntry → Byte
  | .pass => 0
  | .take t => 1 + 4 * t.mode.code + 16 * flagByte t.changeOnly
  | .offer => 2

/-- E1 of an entry in a reply. -/
def MapEntry.e1 : MapEntry → Byte
  | .pass => 0
  | .take t => natByte (16 * t.offset.val + if t.wide then 2 else 1)
  | .offer => 0

/-- E2 of an entry in a reply. -/
def MapEntry.e2 : MapEntry → Byte
  | .pass => 0
  | .take t => natByte t.channel.val
  | .offer => 0

/-- The first byte of a value. -/
def TakeValue.first : TakeValue → Byte
  | .one b => b
  | .two b _ => b

/-- The second byte of a value, 0 for width 1 (R50). -/
def TakeValue.second : TakeValue → Byte
  | .one _ => 0
  | .two _ b => b

/-! ## Line entries -/

/-- The entry that a function code, an index and the two options give (R94). Fields the function does not hold are not
examined. -/
def lineEntryOf (function index option polarity : Byte) : Option LineEntry :=
  if function = 0 then some .unused
  else if function = 1 then (finOf 8 index.toNat).map .row
  else if function = 2 then (finOf 8 index.toNat).map .column
  else if function = 3 then do
    let i ← finOf 8 index.toNat
    let p ← pullOf option.toNat
    let q ← polarityOf polarity.toNat
    pure (.contact i p q)
  else if function = 4 then do
    let c ← finOf 16 index.toNat
    let d ← driveOf option.toNat
    let q ← polarityOf polarity.toNat
    pure (.indicator c d q)
  else none

/-- The line function code. -/
def LineEntry.function : LineEntry → Byte
  | .unused => 0
  | .row _ => 1
  | .column _ => 2
  | .contact _ _ _ => 3
  | .indicator _ _ _ => 4

/-- The function index as it is shown. -/
def LineEntry.index : LineEntry → Byte
  | .unused => 0
  | .row i => natByte i.val
  | .column i => natByte i.val
  | .contact i _ _ => natByte i.val
  | .indicator c _ _ => natByte c.val

/-- The pull or drive option as it is shown. -/
def LineEntry.option : LineEntry → Byte
  | .unused => 0
  | .row _ => 0
  | .column _ => 0
  | .contact _ p _ => p.code
  | .indicator _ d _ => d.code

/-- The polarity as it is shown. -/
def LineEntry.polarity : LineEntry → Byte
  | .unused => 0
  | .row _ => 0
  | .column _ => 0
  | .contact _ _ q => q.code
  | .indicator _ _ q => q.code

/-! ## Effect records -/

/-- The end action and end value (R152): a CHAIN's end value is 0-31. -/
def endActionOf (action : Nat) (value : Byte) : Option EndAction :=
  if action = 0 then some (.hold value)
  else if action = 1 then some (.level value)
  else if action = 2 then (finOf 32 value.toNat).map .chain
  else none

/-- Whether a record's range lies within the pool; an empty record is not judged (R152). -/
def rangeFits (first : Fin 128) (count : Fin 9) : Bool := count.val = 0 || first.val + count.val ≤ 128

/-- The record that F0 to F3 give (R152, 10.5). -/
def effectRecordOf (f0 f1 f2 f3 : Byte) : Option EffectRecord := do
  let first ← finOf 128 f0.toNat
  let count ← finOf 9 (bits f1 0 4)
  let endAction ← endActionOf (bits f1 4 2) f3
  let notify ← flagOf (bits f1 6 2)
  if rangeFits first count then
    pure { first, count, repeatCount := f2, endAction, notify }
  else none

/-- F1 of a record in a reply. -/
def EffectRecord.f1 (r : EffectRecord) : Byte :=
  natByte r.count.val + 16 * r.endAction.code + 64 * flagByte r.notify

/-- A record's four bytes in a reply, after the index. -/
def effectData (index : Byte) (r : EffectRecord) : ReplyData :=
  { d0 := index, d1 := natByte r.first.val, d2 := r.f1, d3 := r.repeatCount, d4 := r.endAction.value }

/-! ## Channels -/

/-- The fallback mode and value (R156): EFFECT takes 0-31. -/
def fallbackOf (mode value : Byte) : Option FallbackMode :=
  if mode = 0 then some (.keep value)
  else if mode = 1 then some (.level value)
  else if mode = 2 then (finOf 32 value.toNat).map .effect
  else none

/-- A value of the given width (R42, R155): the second byte is dropped for width 1. -/
def takeValueOf (wide : Bool) (first second : Byte) : TakeValue :=
  if wide then .two first second else .one first

/-- Payload byte `n`, 0-6 (10.3). -/
def payloadByte (p : Payload) (n : Nat) : Byte := [p.p0, p.p1, p.p2, p.p3, p.p4, p.p5, p.p6].getD n 0

end Sys2Proof.Machine
end

