-- ==== Sys2Proof/Machine/Lines.lean ====
section
/-! DEFINITION. The line map (chapter 5): what each entry does to its pin, the level a pin is sensed at, and validation. -/

namespace Sys2Proof.Machine

/-! ## Pins (R89 to R93) -/

/-- What a pin does (R89 to R91). -/
inductive PinOut where
  | highZ
  | pullUp
  | pullDown
  | high
  | low
  deriving DecidableEq, Repr

/-- What an INDICATOR line drives in its active and its inactive sense (R91). -/
def indicatorOut (d : Drive) (q : Polarity) (active : Bool) : PinOut :=
  match d, q with
  | .pushPull, .activeHigh => if active then .high else .low
  | .pushPull, .activeLow => if active then .low else .high
  | .sinkOnly, .activeLow => if active then .low else .highZ
  | .sinkOnly, .activeHigh => if active then .highZ else .low
  | .sourceOnly, .activeHigh => if active then .high else .highZ
  | .sourceOnly, .activeLow => if active then .highZ else .high

/-- What a pull option switches on (R90). -/
def pullOut (p : Pull) : PinOut :=
  match p with
  | .none => .highZ
  | .up => .pullUp
  | .down => .pullDown

/-- Whether the scanner is driving this line's column now (R89, R106). -/
def columnDriven (s : State) (l : Line) : Bool :=
  match s.scanner.pass with
  | some p => s.scanner.columnLines[p.column]? = some l
  | none => false

/-- What pin `l` does at a step of the pulse-width period (R89 to R91, R100). -/
def pinDrive (s : State) (l : Line) (step : Fin 255) : PinOut :=
  match s.lines.entries.get l with
  | .unused => .highZ
  | .row _ => .pullUp
  | .column _ => if columnDriven s l then .low else .highZ
  | .contact _ p _ => pullOut p
  | .indicator c d q => indicatorOut d q (step.val < (s.lines.shown.get c).toNat)

/-- The level pin `l` is sensed at, high or not (R89, R90, R95; entry 10). -/
def sensedHigh (s : State) (l : Line) (v : PinView) : Bool :=
  match pinDrive s l v.pwmStep with
  | .high => true
  | .low => false
  | .pullUp => if v.held.getLsbD l.val then v.level.getLsbD l.val else true
  | .pullDown => if v.held.getLsbD l.val then v.level.getLsbD l.val else false
  | .highZ => v.level.getLsbD l.val

/-- A pulse-width period begins: each line shows its channel's present level for the period (R91, R92). -/
def beginPeriod (s : State) : State :=
  s.withLines { s.lines with shown := Vector.ofFn fun c => (s.engine.channels.get c).level }

/-- One line entry replaced (R94). -/
def setLine (l : Line) (x : LineEntry) (s : State) : State :=
  s.withLines { s.lines with entries := setAt s.lines.entries l x }

/-- NODE RESET, on the line map (R100). The pulse-width period then running goes on. -/
def LineMap.nodeReset (m : LineMap) : LineMap := { m with entries := LineMap.reset.entries }

/-! ## Validation (R96 to R98) -/

/-- The line map's entries. -/
abbrev LineTable := Vector LineEntry 24

/-- Two entries of the same judged function and index (R96). -/
def sameUse (x y : LineEntry) : Bool :=
  match x, y with
  | .row i, .row j => i = j
  | .column i, .column j => i = j
  | .contact i _ _, .contact j _ _ => i = j
  | _, _ => false

/-- Whether a line's entry repeats that of a lower-numbered line (R96). -/
def isRepeat (t : LineTable) (l : Line) : Bool :=
  (List.finRange 24).any fun m => m < l && sameUse (t.get m) (t.get l)

/-- The number of ROW entries, R (R97). -/
def rowCount (t : LineTable) : Nat :=
  ((List.finRange 24).filter fun l => match t.get l with | .row _ => true | _ => false).length

/-- The number of COLUMN entries, C (R97). -/
def columnCount (t : LineTable) : Nat :=
  ((List.finRange 24).filter fun l => match t.get l with | .column _ => true | _ => false).length

/-- Whether a line holds an index of R or more as a row, or of C or more as a column (R97). -/
def isGap (t : LineTable) (l : Line) : Bool :=
  match t.get l with
  | .row i => rowCount t ≤ i.val
  | .column i => columnCount t ≤ i.val
  | .unused => false
  | .contact _ _ _ => false
  | .indicator _ _ _ => false

/-- Whether a line belongs to the key matrix. -/
def isMatrixLine (t : LineTable) (l : Line) : Bool :=
  match t.get l with
  | .row _ => true
  | .column _ => true
  | .unused => false
  | .contact _ _ _ => false
  | .indicator _ _ _ => false

/-- The validation of START: the first failure's reason and lowest offending line, or none where it passes (R96 to R98).
In a half matrix every matrix line is of the one function present. -/
def validate (t : LineTable) : Option (StartReason × Line) :=
  match (List.finRange 24).find? (isRepeat t) with
  | some l => some (.duplicateLine, l)
  | none =>
    match (List.finRange 24).find? (isGap t) with
    | some l => some (.gap, l)
    | none =>
      if rowCount t = 0 ∨ columnCount t = 0 then
        ((List.finRange 24).find? (isMatrixLine t)).map fun l => (.halfMatrix, l)
      else none

/-- The line of row index `i` (R99). -/
def rowLine? (t : LineTable) (i : Nat) : Option Line :=
  (List.finRange 24).find? fun l => match t.get l with | .row j => j.val = i | _ => false

/-- The line of column index `i` (R99). -/
def columnLine? (t : LineTable) (i : Nat) : Option Line :=
  (List.finRange 24).find? fun l => match t.get l with | .column j => j.val = i | _ => false

/-- The line and polarity of contact index `i` (R99). -/
def contactLine? (t : LineTable) (i : Fin 8) : Option (Line × Polarity) :=
  (List.finRange 24).findSome? fun l =>
    match t.get l with
    | .contact j _ q => if j = i then some (l, q) else none
    | _ => none

end Sys2Proof.Machine
end

