-- ==== Sys2Proof/Machine/Scanner.lean ====
section
/-! DEFINITION. The key matrix scanner (chapter 6): enable and disable, the reading of a pass, debounce, acceptance and
blocking, and the reports of a pass together with the contact block's. -/

namespace Sys2Proof.Machine

/-! ## Enable and disable (R102, R103) -/

/-- The scanner enabled from a validated line map (R99, R102). -/
def Scanner.enable (sc : Scanner) (t : LineTable) : Scanner :=
  { sc with
    enabled := true
    rowLines := (List.range (rowCount t)).filterMap (rowLine? t)
    columnLines := (List.range (columnCount t)).filterMap (columnLine? t)
    contactLines := Vector.ofFn (contactLine? t)
    passTimer := some 0
    pass := none
    keys := allKeysUp }

/-- The scanner disabled: the settings alone are kept (R103). -/
def Scanner.disable (sc : Scanner) : Scanner :=
  { Scanner.reset with interval := sc.interval, debounce := sc.debounce }

/-- The scanner and the contact block disabled together (R103, R129). A disable that finds the scanner stopped changes nothing
in the scanner (R103). BLOCK RESET naming SCANNER clears the held flags that an earlier STOP kept even then, as R129 and R134
give it without that condition: DESIGN CHOICE (entry 16). -/
def disableScanner (clearHeld : Bool) (s : State) : State :=
  disableContacts clearHeld (s.withScanner s.scanner.disable)

/-! ## The reading of a pass (R105, R106) -/

/-- A pass begins and the pass timer restarts (R105). -/
def Scanner.startPass (sc : Scanner) : Scanner := { sc with passTimer := some 0, pass := some { column := 0, closed := 0 } }

/-- The readings of one column: bit r × 8 + c set where row r's line is sensed low (R89, R106). -/
def columnReadings (v : PinView) (c : Nat) (s : State) : BitVec 64 :=
  (List.range s.scanner.rowLines.length).foldl (fun acc r =>
    match s.scanner.rowLines[r]? with
    | some l => if sensedHigh s l v then acc else acc ||| BitVec.twoPow 64 (r * 8 + c)
    | none => acc) 0

/-- The settling time of the column being read ends: its rows are sensed and the next column is driven (R106). -/
def settleColumn (v : PinView) (p : Pass) (s : State) : State :=
  s.withScanner
    { s.scanner with pass := some { column := p.column + 1, closed := p.closed ||| columnReadings v p.column s } }

/-! ## Debounce (R108, R109), acceptance and blocking (R110, R111) -/

/-- Whether a key is held: DOWN or RELEASE_PENDING (R101). -/
def KeyState.isHeld : KeyState → Bool
  | .up => false
  | .pressPending _ => false
  | .down => true
  | .releasePending _ => true
  | .blocked => false

/-- The 64 key records. -/
abbrev KeyTable := Vector KeyState 64

/-- The number of keys held (R110). -/
def heldCount (keys : KeyTable) : Nat := ((List.finRange 64).filter fun k => (keys.get k).isHeld).length

/-- A key's row (R101). -/
def keyRow (k : Fin 64) : Nat := k.val / 8

/-- A key's column (R101). -/
def keyColumn (k : Fin 64) : Nat := k.val % 8

/-- Whether some other key of this key's row is held and some other key of its column is held (R110). -/
def ambiguous (keys : KeyTable) (k : Fin 64) : Bool :=
  ((List.finRange 64).any fun j => j ≠ k && keyRow j = keyRow k && (keys.get j).isHeld) &&
  ((List.finRange 64).any fun j => j ≠ k && keyColumn j = keyColumn k && (keys.get j).isHeld)

/-- Whether acceptance of a key succeeds (R110). -/
def acceptable (keys : KeyTable) (k : Fin 64) : Bool := heldCount keys < 4 && !ambiguous keys k

/-- The keys as evaluated so far in a pass, with the reports made so far, oldest first. -/
structure Evaluation where
  keys    : KeyTable
  reports : List ReportBody
  deriving DecidableEq, Repr

/-- Acceptance attempted: DOWN with a KEY_DOWN, or BLOCKED (R110, R111). -/
def attemptAcceptance (k : Fin 64) (e : Evaluation) : Evaluation :=
  if acceptable e.keys k then
    { keys := setAt e.keys k .down, reports := e.reports ++ [.keyDown k] }
  else { e with keys := setAt e.keys k .blocked }

/-- A key goes UP with a KEY_UP (R109). -/
def releaseKey (k : Fin 64) (e : Evaluation) : Evaluation :=
  { keys := setAt e.keys k .up, reports := e.reports ++ [.keyUp k] }

/-- A key's record replaced without a report. -/
def recordKey (k : Fin 64) (x : KeyState) (e : Evaluation) : Evaluation := { e with keys := setAt e.keys k x }

/-- One key evaluated from its reading, with D debounce passes (R108, R109, R111). -/
def evaluateKey (D : Nat) (closed : Bool) (k : Fin 64) (e : Evaluation) : Evaluation :=
  match e.keys.get k with
  | .up =>
    if closed then (if D ≤ 1 then attemptAcceptance k e else recordKey k (.pressPending 1) e) else e
  | .pressPending n =>
    if closed then (if D ≤ n + 1 then attemptAcceptance k e else recordKey k (.pressPending (n + 1)) e)
    else recordKey k .up e
  | .down =>
    if closed then e else if D ≤ 1 then releaseKey k e else recordKey k (.releasePending 1) e
  | .releasePending n =>
    if closed then recordKey k .down e
    else if D ≤ n + 1 then releaseKey k e else recordKey k (.releasePending (n + 1)) e
  | .blocked => if closed then attemptAcceptance k e else recordKey k .up e

/-- Whether a key lies in the matrix of R rows and C columns (R101). -/
def inMatrix (R C : Nat) (k : Fin 64) : Bool := keyRow k < R && keyColumn k < C

/-- Every key of the matrix evaluated in ascending key code (R107, R112). -/
def evaluateKeys (sc : Scanner) (closed : BitVec 64) : Evaluation :=
  (List.finRange 64).foldl (fun e k =>
    if inMatrix sc.rowLines.length sc.columnLines.length k
    then evaluateKey sc.debounce.toNat (closed.getLsbD k.val) k e else e)
    { keys := sc.keys, reports := [] }

/-! ## The completion of a pass (R107, R113, R121 to R125) -/

/-- A contact's raw sample; INACTIVE where no CONTACT line of the validated map names it (R121). -/
def rawSample (v : PinView) (s : State) (i : Fin 8) : Bool :=
  match s.scanner.contactLines.get i with
  | none => false
  | some (l, q) => sensedHigh s l v = (q = .activeHigh : Bool)

/-- An enqueue a pass hands the queue: a key report, or a contact's, with its value and whether it is the level report of
R125. -/
inductive PassReport where
  | key (b : ReportBody)
  | contact (i : Fin 8) (active level : Bool)
  deriving DecidableEq, Repr

/-- The report one contact makes at a pass's completion, from its state before and after the sample (R124, R125). -/
def contactReport? (i : Fin 8) (old new : Contact) : Option PassReport :=
  if reportsChange old.sense old.filtered new.filtered then some (.contact i (new.filtered = .active) false)
  else if new.wantsLevelReport then some (.contact i true true)
  else none

/-- Two producers' enqueues merged, each keeping its order; the open choices say whose is next (R113; entry 3). -/
def mergeReports : List Bool → List PassReport → List PassReport → List PassReport
  | [], xs, ys => xs ++ ys
  | _ :: _, [], ys => ys
  | _ :: _, x :: xs, [] => x :: xs
  | b :: bs, x :: xs, y :: ys => if b then x :: mergeReports bs xs (y :: ys) else y :: mergeReports bs (x :: xs) ys

/-- The `n` open choices from the present one on. -/
def choices (s : State) (n : Nat) : List Bool := (List.range n).map fun i => Config.orderChoice (s.freeIndex + i)

/-- One enqueue of a pass reaches the queue (R113, R124, R125). -/
def takePassReport (s : State) : PassReport → State
  | .key b => enqueueOnly b s
  | .contact i active level => enqueueContact i active level s

/-- The completion of a pass: the keys are evaluated, the contacts handled, and the reports handed to the queue (R107, R113, R121). -/
def completePass (v : PinView) (p : Pass) (s : State) : State :=
  let e := evaluateKeys s.scanner p.closed
  let sampled := Vector.ofFn fun i => (s.contacts.get i).sampled (rawSample v s i)
  let keyReports := e.reports.map PassReport.key
  let contactReports := (List.finRange 8).filterMap fun i => contactReport? i (s.contacts.get i) (sampled.get i)
  let n := if keyReports.isEmpty || contactReports.isEmpty then 0 else keyReports.length + contactReports.length
  let s' := ((s.withScanner { s.scanner with keys := e.keys, pass := none }).withContacts sampled).withFreeIndex
    (s.freeIndex + n)
  (mergeReports (choices s n) keyReports contactReports).foldl takePassReport s'

/-! ## Reading the keys (R116, R117) -/

/-- The columns of a row whose key satisfies `f`, as a set: bit c is column c (R117, 10.5). -/
def columnSet (keys : KeyTable) (row : Fin 8) (f : KeyState → Bool) : Byte :=
  natByte ((List.finRange 8).foldl
    (fun acc c => acc + if f (keys.get (Fin.ofNat 64 (row.val * 8 + c.val))) then 2 ^ c.val else 0) 0)

end Sys2Proof.Machine
end

