-- ==== Sys2Proof/Machine/Channels.lean ====
section
/-! DEFINITION. The indicator engine (chapter 8): drives, the tick, effects, fallback modes, and what is in play. -/

namespace Sys2Proof.Machine

/-! ## Effect memory (R135, R136) -/

/-- The segment at a position of a record's range. A record's range lies in the pool (R135); past it, where no run comes,
the index is taken modulo the pool's 128. -/
def Engine.segmentAt (e : Engine) (r : EffectRecord) (position : Nat) : Segment :=
  e.segments.get (Fin.ofNat 128 (r.first.val + position))

/-- A segment lasts its ramp plus its hold ticks, and at least 1 (R136). -/
def Segment.length (g : Segment) : Nat := max 1 (g.ramp.toNat + g.hold.toNat)

/-- The effect a channel is playing. -/
def Motion.effect? : Motion → Option (Fin 32)
  | .steady => none
  | .gliding _ _ _ _ => none
  | .playing e _ _ _ _ => some e

/-- Whether an effect is in play on any channel (R136). -/
def Engine.inPlay (e : Engine) (i : Fin 32) : Bool :=
  (List.finRange 16).any fun c => (e.channels.get c).motion.effect? = some i

/-- Whether a pool index lies in a record's range (R135). -/
def EffectRecord.covers (r : EffectRecord) (j : Fin 128) : Bool :=
  r.first.val ≤ j.val && j.val < r.first.val + r.count.val

/-- Whether a segment lies in the range of an effect in play (R136). -/
def Engine.segmentInUse (e : Engine) (j : Fin 128) : Bool :=
  (List.finRange 16).any fun c =>
    match (e.channels.get c).motion.effect? with
    | some i => (e.effects.get i).covers j
    | none => false

/-! ## Ramps (R139) -/

/-- The level at tick `k` of a ramp of `n` ticks: the change is truncated toward zero (R139). -/
def rampLevel (start target : Byte) (k n : Nat) : Byte :=
  BitVec.ofInt 8 ((start.toNat : Int) + Int.tdiv (((target.toNat : Int) - (start.toNat : Int)) * (k : Int)) (n : Int))

/-! ## Starting effects (R142, R144, R148) -/

/-- STEADY at a level. -/
def Channel.steadyAt (c : Channel) (level : Byte) : Channel := { c with motion := .steady, level := level }

/-- STEADY at the present level (R45, R146). -/
def Channel.stopped (c : Channel) : Channel := c.steadyAt c.level

/-- A segment begins: its start is the present level, and a ramp of 0 sets the level at once (R142). -/
def Engine.beginSegment (e : Engine) (i : Fin 32) (position : Nat) (runs : Option Byte) (c : Channel) : Channel :=
  let g := e.segmentAt (e.effects.get i) position
  { c with
    motion := .playing i position 0 c.level runs
    level := if g.ramp = 0 then g.target else c.level }

/-- The runs a start gives: the override where there is one, else the record's repeat count, 0 meaning without end (R46, R148). -/
def startRuns (repeatCount override : Byte) : Option Byte :=
  if override ≠ 0 then some override else if repeatCount = 0 then none else some repeatCount

/-- An effect is started on a channel; an empty record leaves it STEADY at its present level (R144, R146, R148, R150). -/
def Engine.startEffect (e : Engine) (i : Fin 32) (override : Byte) (c : Channel) : Channel :=
  let r := e.effects.get i
  if r.count = 0 then c.stopped else e.beginSegment i 0 (startRuns r.repeatCount override) c

/-! ## Drives (R44 to R46, R146 to R148) -/

/-- A drive in LEVEL mode (R147). -/
def Channel.driveLevel (c : Channel) (v : TakeValue) : Channel :=
  match v with
  | .one b => c.steadyAt b
  | .two b ticks => if ticks = 0 then c.steadyAt b else { c with motion := .gliding c.level b ticks 0 }

/-- Whether an EFFECT selector is one a channel can use: 0-31 or 255 (R45). -/
def goodSelector (selector : Byte) : Bool := selector.toNat < 32 || selector = 255

/-- A drive in EFFECT mode with a selector of 0-31 or 255 (R45, R46, R148). -/
def Engine.driveEffect (e : Engine) (v : TakeValue) (c : Channel) : Channel :=
  match finOf 32 v.first.toNat with
  | some i => e.startEffect i v.second c
  | none => c.stopped

/-- A drive carried out on a channel; none for a selector of 32-254 (R45, R146, R155). -/
def Engine.drive (e : Engine) (ch : Fin 16) (mode : DriveMode) (v : TakeValue) : Option Engine :=
  let c := e.channels.get ch
  match mode with
  | .level => some { e with channels := setAt e.channels ch (c.driveLevel v) }
  | .effect =>
    if goodSelector v.first then some { e with channels := setAt e.channels ch (e.driveEffect v c) } else none

/-! ## The tick (R138 to R145) -/

/-- The end action at the end of an effect (R144). -/
def Engine.applyEndAction (e : Engine) (action : EndAction) (c : Channel) : Channel :=
  match action with
  | .hold _ => c.stopped
  | .level v => c.steadyAt v
  | .chain i => e.startEffect i 0 c

/-- The present run is over (R143): restart, or end with the end action and, where the record's notify flag is set, a
notice of the effect that ended (R145). -/
def Engine.runEnd (e : Engine) (i : Fin 32) (runs : Option Byte) (c : Channel) : Channel × Option (Fin 32) :=
  match runs with
  | none => (e.beginSegment i 0 none c, none)
  | some n =>
    if 1 < n.toNat then (e.beginSegment i 0 (some (n - 1)) c, none)
    else (e.applyEndAction (e.effects.get i).endAction c, if (e.effects.get i).notify then some i else none)

/-- A segment has ended: the next begins at this same tick, or the run ends (R141). -/
def Engine.segmentEnd (e : Engine) (i : Fin 32) (position : Nat) (runs : Option Byte) (c : Channel) :
    Channel × Option (Fin 32) :=
  if position + 1 < (e.effects.get i).count.val then (e.beginSegment i (position + 1) runs c, none)
  else e.runEnd i runs c

/-- The level a PLAYING channel shows at tick `t` of its segment (R141). -/
def segmentLevel (g : Segment) (segStart : Byte) (t : Nat) : Byte :=
  if t ≤ g.ramp.toNat then rampLevel segStart g.target t g.ramp.toNat else g.target

/-- One channel advanced whole by a tick, and the effect whose end makes a notice (R138, R140, R141). -/
def Engine.advance (e : Engine) (c : Channel) : Channel × Option (Fin 32) :=
  match c.motion with
  | .steady => (c, none)
  | .gliding start target length elapsed =>
    if elapsed + 1 < length.toNat then
      ({ c with motion := .gliding start target length (elapsed + 1),
                level := rampLevel start target (elapsed + 1) length.toNat }, none)
    else (c.steadyAt target, none)
  | .playing i position tick segStart runs =>
    let g := e.segmentAt (e.effects.get i) position
    let c' := { c with motion := .playing i position (tick + 1) segStart runs,
                       level := segmentLevel g segStart (tick + 1) }
    if g.length ≤ tick + 1 then e.segmentEnd i position runs c' else (c', none)

/-- The tick's advance of one channel in the whole state, with its notice (R138, R145). -/
def advanceChannel (ch : Fin 16) (s : State) : State :=
  match s.engine.advance (s.engine.channels.get ch) with
  | (c, ended) =>
    let s' := s.withEngine { s.engine with channels := setAt s.engine.channels ch c }
    match ended with
    | none => s'
    | some i => enqueueOnly (.effectEnd i ch) s'

/-- The indicator tick: the channels in ascending index, each whole before the next (R138). -/
def tickChannels (s : State) : State := (List.finRange 16).foldl (fun s ch => advanceChannel ch s) s

/-- Whether the next tick ends this channel's glide (R140). -/
def Channel.glideEnds (c : Channel) : Bool :=
  match c.motion with
  | .gliding _ _ length elapsed => length.toNat ≤ elapsed + 1
  | .steady => false
  | .playing _ _ _ _ _ => false

/-- Whether the next tick ends this channel's present segment (R141). -/
def Engine.segmentEnds (e : Engine) (c : Channel) : Bool :=
  match c.motion with
  | .playing i position tick _ _ => (e.segmentAt (e.effects.get i) position).length ≤ tick + 1
  | .steady => false
  | .gliding _ _ _ _ => false

/-! ## Fallback and the resets (R150, R159 to R161) -/

/-- A channel's fallback mode applied (R150). -/
def Engine.applyFallback (e : Engine) (c : Channel) : Channel :=
  match c.fallback with
  | .keep _ => c
  | .level v => c.steadyAt v
  | .effect i => e.startEffect i 0 c

/-- Every channel's fallback mode applied at entry into FALLBACK (R150). The channels do not affect one another. -/
def Engine.enterFallback (e : Engine) : Engine :=
  { e with channels := Vector.ofFn fun i => e.applyFallback (e.channels.get i) }

/-- BLOCK RESET naming CHANNELS (R160). -/
def Engine.resetChannels (e : Engine) : Engine :=
  { e with channels := Vector.ofFn fun i => (e.channels.get i).steadyAt 0 }

/-- A PLAYING channel stopped where it stands; any other unchanged (R161). -/
def Channel.stopPlaying (c : Channel) : Channel :=
  match c.motion with
  | .playing _ _ _ _ _ => c.stopped
  | .steady => c
  | .gliding _ _ _ _ => c

/-- BLOCK RESET naming EFFECTS (R161): playing channels stop, then the memory is cleared. -/
def Engine.resetEffects (e : Engine) : Engine :=
  { effects := Engine.reset.effects, segments := Engine.reset.segments,
    channels := Vector.ofFn fun i => (e.channels.get i).stopPlaying }

end Sys2Proof.Machine
end

