-- ==== Sys2Proof/Machine/SlotMap.lean ====
section
/-! DEFINITION. The slot map (chapter 3): look-up, TAKE, validation and commit. -/

namespace Sys2Proof.Machine

/-- The active entry of a slot index; no slot of a delivered frame has an index of 48 or more (R40). -/
def activeEntry (s : State) (index : Nat) : MapEntry :=
  match finOf 48 index with
  | some i => s.map.active.get i
  | none => .pass

/-- The value a TAKE entry extracts from a DATA payload (R42). -/
def TakeEntry.extract (t : TakeEntry) (p : Payload) : TakeValue :=
  takeValueOf t.wide (payloadByte p t.offset.val) (payloadByte p (t.offset.val + 1))

/-- The extracted value becomes the entry's last value (R43). -/
def storeLastValue (i : Fin 48) (v : TakeValue) (s : State) : State :=
  s.withMap { s.map with lastValues := setAt s.map.lastValues i (some v) }

/-- A TAKE's drive: carried out on the channel, or counted as a bad take value (R44, R45). -/
def applyTake (t : TakeEntry) (v : TakeValue) (s : State) : State :=
  match s.engine.drive t.channel t.mode v with
  | some e => s.withEngine e
  | none => bump ctrBadTakes s

/-- A TAKE made by active entry `i` on a DATA payload (R42, R43). -/
def take (i : Fin 48) (t : TakeEntry) (p : Payload) (s : State) : State :=
  let v := t.extract p
  if t.changeOnly && s.map.lastValues.get i = some v then s else applyTake t v (storeLastValue i v s)

/-- A DATA slot dispatched in RUNNING (R41). -/
def dataSlot (index : Nat) (p : Payload) (s : State) : State :=
  match finOf 48 index with
  | some i =>
    match s.map.active.get i with
    | .take t => take i t p s
    | .pass => s
    | .offer => s
  | none => s

/-- All last values become none (R48). -/
def clearLastValues (s : State) : State := s.withMap { s.map with lastValues := noLastValues }

/-! ## Commit (R51 to R54) -/

/-- Whether an entry may be in the active map: a TAKE's offset plus width is at most 7 (R38, R51). -/
def MapEntry.fits : MapEntry → Bool
  | .pass => true
  | .take t => t.offset.val + (if t.wide then 2 else 1) ≤ 7
  | .offer => true

/-- The lowest-indexed staging entry that fails validation (R51). -/
def SlotMap.badEntry? (m : SlotMap) : Option (Fin 48) :=
  (List.finRange 48).find? fun i => !(m.staging.get i).fits

/-- The number of staging entries of an action (R52). -/
def SlotMap.countStaging (m : SlotMap) (f : MapEntry → Bool) : Nat :=
  ((List.finRange 48).filter fun i => f (m.staging.get i)).length

/-- Whether an entry is TAKE. -/
def MapEntry.isTake : MapEntry → Bool
  | .pass => false
  | .take _ => true
  | .offer => false

/-- Whether an entry is OFFER. -/
def MapEntry.isOffer : MapEntry → Bool
  | .pass => false
  | .take _ => false
  | .offer => true

/-- The commit's copy: staging into active as a whole, last values none, commit-pending clear (R53). -/
def SlotMap.commit (m : SlotMap) : SlotMap :=
  { m with active := m.staging, lastValues := noLastValues, commitPending := false }

/-- The slot map's part of a frame event: a pending commit is carried out and its COMMIT_DONE enqueued (R53, R54). -/
def mapFrameEvent (s : State) : State :=
  if s.map.commitPending then enqueueOnly .commitDone (s.withMap s.map.commit) else s

end Sys2Proof.Machine
end

