-- ==== Sys2Proof/Machine/Resets.lean ====
section
/-! DEFINITION. The resets: power-on, pin, NODE RESET and BLOCK RESET (R16, R37, R59, R86, R100, R119, R134, R162, R191). -/

namespace Sys2Proof.Machine

/-- The whole node at its power-on or pin reset values (R16 and each chapter's table), in phase `p`. The model's own fields
and the level of the RESET pin are not the node's state and stay. -/
def wholeReset (p : Phase) (s : State) : State :=
  { State.reset with phase := p, resetPinLow := s.resetPinLow, freeIndex := s.freeIndex, pending := s.pending }

/-- The phase a reset of the whole node leads to: held while RESET is low, else the start-up (R16). -/
def phaseAfterReset (s : State) : Phase := if s.resetPinLow then .heldInReset else .starting

/-- A recognised pin reset of a powered node (R16). -/
def pinResetNow (s : State) : State := wholeReset .heldInReset (s.withResetPinLow true)

/-- NODE RESET takes place: every block as its chapter states, together, with no event handed from one to another (R17, R184).
The port keeps its link state, its run of bad headers, its mark timer and its frame record. -/
def nodeReset (s : State) : State :=
  { s with
    port := { s.port with searchCount := 0 }
    node := .reset
    map := .reset
    queue := s.queue.nodeReset
    lines := s.lines.nodeReset
    scanner := .reset
    contacts := State.reset.contacts
    engine := .reset
    agent := .reset
    counters := State.reset.counters }

/-- A NODE RESET that awaits the sending-on of its slot takes place before the next part is judged (R184; entry 4). -/
def settleReset (s : State) : State := if s.node.resetDue then nodeReset s else s

/-- The set of blocks a BLOCK RESET names (R187, 10.5). -/
structure BlockSet where
  scanner  : Bool
  queue    : Bool
  channels : Bool
  slotMap  : Bool
  effects  : Bool
  deriving DecidableEq, Repr

/-- The set that argument a0 gives: it names at least one block, and its bits 7-5 are 0 (R187). -/
def blockSetOf (a0 : Byte) : Option BlockSet :=
  if a0 = 0 ∨ bits a0 5 3 ≠ 0 then none
  else some
    { scanner := a0.getLsbD 0, queue := a0.getLsbD 1, channels := a0.getLsbD 2,
      slotMap := a0.getLsbD 3, effects := a0.getLsbD 4 }

/-- BLOCK RESET naming QUEUE, with the queue emptied it hands the contact block (R86, R127). -/
def resetQueueBlock (s : State) : State := queueEmptied (s.withQueue s.queue.blockReset)

/-- BLOCK RESET naming SLOT_MAP (R57). -/
def resetMapBlock (s : State) : State := s.withMap .reset

/-- The named blocks reset, CHANNELS before EFFECTS (R188). -/
def blockReset (b : BlockSet) (s : State) : State :=
  let s1 := if b.scanner then disableScanner true s else s
  let s2 := if b.queue then resetQueueBlock s1 else s1
  let s3 := if b.channels then s2.withEngine s2.engine.resetChannels else s2
  let s4 := if b.slotMap then resetMapBlock s3 else s3
  if b.effects then s4.withEngine s4.engine.resetEffects else s4

end Sys2Proof.Machine
end

