-- ==== Sys2Proof/Machine/ResetCommands.lean ====
section
/-! DEFINITION. The commands of the supply, the RESET pin and the NODE RESET that takes place (R15, R16, R184). -/

namespace Sys2Proof.Machine

/-- What a command of the block answers: always a next state (INVENTORY.md, "Faults"). -/
abbrev Outcome := Host.Outcome State Fault Refusal

/-- POWER_ON_RESET: VDD rises, and the whole node is reset (R16); it is held while RESET is low. -/
def execPowerOnReset (s : State) : Outcome := .next (wholeReset (phaseAfterReset s) s)

/-- POWER_LOSS: VDD is removed; the node drives nothing and its state is lost until the next power-on reset (R15; entry 14). -/
def execPowerLoss (s : State) : Outcome :=
  let s' := wholeReset .unpowered s
  .next (s'.withPort { s'.port with loopOut := .undriven })

/-- PIN_RESET: a low level of 2 µs or more is recognised; a shorter one may be recognised or ignored (R16; entry 3). An
unpowered node has nothing to reset, and only the pin is low. -/
def execPinReset (pulse : LowPulse) (s : State) : Outcome :=
  match pulse, s.phase with
  | .full, .unpowered => .next (s.withResetPinLow true)
  | .short, .unpowered => .next s
  | .full, _ => .next (pinResetNow s)
  | .short, _ =>
    .next (if Config.orderChoice s.freeIndex then pinResetNow (tookChoice s) else tookChoice s)

/-- RESET_RELEASED: RESET returns high, and a node held in reset begins its start-up (R16). -/
def execResetReleased (s : State) : Outcome :=
  let s' := s.withResetPinLow false
  .next (if s.phase = .heldInReset then s'.withPhase .starting else s')

/-- START_UP_COMPLETE: BYPASS is released, and the port begins repeating in SEARCHING (R15, R16). -/
def execStartUpComplete (s : State) : Outcome :=
  .next (if s.phase = .starting then s.withPhase .operating else s)

/-- NODE_RESET_TAKES_PLACE: the reset a taken NODE RESET arranged, once its slot has been sent on (R184). -/
def execNodeResetTakesPlace (s : State) : Outcome := .next (whenOperating settleReset s)

end Sys2Proof.Machine
end

