-- ==== Sys2Proof/Machine/IndicatorCommands.lean ====
section
/-! DEFINITION. The commands of the indicator tick and the pulse-width period (R91, R138), and the ends of a glide and of a segment,
which the table lists as steps of their own (entry 8). -/

namespace Sys2Proof.Machine

/-- INDICATOR_TICK (R138). -/
def execIndicatorTick (s : State) : Outcome := .next (whenOperating tickChannels s)

/-- GLIDE_END (R140): a tick's advance of a channel whose glide it ends. -/
def execGlideEnd (ch : Fin 16) (s : State) : Outcome :=
  .next (whenOperating (fun s => if (s.engine.channels.get ch).glideEnds then advanceChannel ch s else s) s)

/-- SEGMENT_END (R141 to R145): a tick's advance of a channel whose present segment it ends. -/
def execSegmentEnd (ch : Fin 16) (s : State) : Outcome :=
  .next (whenOperating (fun s =>
    if s.engine.segmentEnds (s.engine.channels.get ch) then advanceChannel ch s else s) s)

/-- PULSE_WIDTH_PERIOD (R91, R92). -/
def execPulseWidthPeriod (s : State) : Outcome := .next (whenOperating beginPeriod s)

end Sys2Proof.Machine
end

