-- ==== Sys2Proof/Machine/Acknowledge.lean ====
section
/-! DEFINITION. Acknowledgement (R72 to R75): what a pair of an ACKLIST does to the queue and, through it, to the
contact block. -/

namespace Sys2Proof.Machine

/-- Whether an acknowledgement of `seq` names this report (R73). -/
def Report.acknowledgedBy (seq : Byte) (r : Report) : Bool := r.seq = seq && r.everSent

/-- The reports an acknowledgement of `seq` removes, oldest first, and those that remain; none where it is stray (R73, R74). -/
def splitAtAck (seq : Byte) : List Report → Option (List Report × List Report)
  | [] => none
  | r :: rs =>
    if r.acknowledgedBy seq then some ([r], rs)
    else match splitAtAck seq rs with
      | some (gone, left) => some (r :: gone, left)
      | none => none

/-- The queue after a matching acknowledgement's removals, but for the follow-up (R73): the ack timer restarts if SENT
reports remain, else stops, and STALLED clears. -/
def Queue.afterRemoval (q : Queue) (left : List Report) : Queue :=
  { q with
    reports := left
    stalled := false
    ackTimer := if left.any (fun r => r.status = .sent) then some 0 else none }

/-- The follow-up of R66: a new OVERRUN report where the OVERRUN report was removed and losses are held. -/
def Queue.followUp (q : Queue) (gone : List Report) : Queue :=
  if gone.any (fun r => r.body.isOverrun) && q.lost ≠ 0 then { q.append (.overrun q.lost) with lost := 0 } else q

/-- One acknowledgement of this node's sequence number `seq`: matched (R73) or counted stray (R74). DEDUCED: the follow-up
of R66 comes before the re-arms of R126, as R73 lists them (entry 11). -/
def acknowledge (seq : Byte) (s : State) : State :=
  match splitAtAck seq s.queue.reports with
  | none => bump ctrStrayAcks s
  | some (gone, left) =>
    contactRemovals gone (s.withQueue ((s.queue.afterRemoval left).followUp gone))

/-- One pair of an ACKLIST (R72, R194): taken where its position is this node's, else passed over. -/
def ackPair (position seq : Byte) (s : State) : State :=
  if position ≠ 0 && s.node.position = some position then acknowledge seq s else s

/-- An ACKLIST slot: its three pairs in order, each taken whole before the next (R72). -/
def ackList (p : Payload) (s : State) : State :=
  ackPair p.p4 p.p5 (ackPair p.p2 p.p3 (ackPair p.p0 p.p1 s))

end Sys2Proof.Machine
end

