-- ==== Sys2Proof/Machine/Node.lean ====
section
/-! DEFINITION. The node controller (chapter 2): header arrivals, enumeration, epochs, START and STOP, silence and fallback. -/

namespace Sys2Proof.Machine

/-! ## Leaving RUNNING and FALLBACK (R23) -/

/-- The node controller's timers on leaving RUNNING or FALLBACK: the silence timer stops, and leaving FALLBACK records
the outage timer and stops it (R23). -/
def NodeCtl.leave (n : NodeCtl) : NodeCtl :=
  match n.state with
  | .fallback => { n with silenceTimer := none, lastFallback := n.outageTimer, outageTimer := 0 }
  | .running => { n with silenceTimer := none }
  | .ready => n
  | .unaddressed => n

/-- The node leaves RUNNING or FALLBACK, if it is in one of them, with the go-back it hands the queue (R23). -/
def leaveLoop (s : State) : State :=
  match s.node.state with
  | .running => goBack (s.withNode s.node.leave)
  | .fallback => goBack (s.withNode s.node.leave)
  | .ready => s
  | .unaddressed => s

/-- The node enters UNADDRESSED with position and epoch none (R19, R22, R24). -/
def becomeUnaddressed (s : State) : State :=
  (leaveLoop s).withNode { (leaveLoop s).node with state := .unaddressed, position := none, epoch := none }

/-- The node enters READY with this position and epoch (R21). -/
def becomeReady (position epoch : Byte) (s : State) : State :=
  (leaveLoop s).withNode
    { (leaveLoop s).node with state := .ready, position := some position, epoch := some epoch }

/-- The token cache is emptied (R174). -/
def emptyCache (s : State) : State := s.withAgent { cache := none }

/-! ## Enumeration (R21, R22) -/

/-- An ENUMERATE header arrival: the state after it and the new hop count, where one is handed to the port. -/
def enumerate (hop epoch : Byte) (s : State) : State × Option Byte :=
  if hop = 255 then (s, none)
  else if 1 ≤ hop.toNat ∧ hop.toNat ≤ 60 then (emptyCache (becomeReady hop epoch s), some (hop + 1))
  else (emptyCache (becomeUnaddressed s), some (hop + 1))

/-! ## NORMAL headers (R24 to R26) -/

/-- The node enters RUNNING: the silence timer starts at 0 and the last values clear (R25, R28, R31, R48). -/
def enterRunning (s : State) : State :=
  clearLastValues (s.withNode { s.node with state := .running, silenceTimer := some 0 })

/-- The frame event handed to the slot map and the report queue (R20). Where both have something to do that reaches the queue,
a commit's notice and a timeout, either is taken first (R67; entry 3). -/
def frameEvent (s : State) : State :=
  if s.map.commitPending && timeoutDue s then
    if Config.orderChoice s.freeIndex then queueFrameEvent (mapFrameEvent (tookChoice s))
    else mapFrameEvent (queueFrameEvent (tookChoice s))
  else queueFrameEvent (mapFrameEvent s)

/-- The return from FALLBACK, but for its notice (R25). -/
def resumeLoop (s : State) : State := enterRunning (s.withNode s.node.leave)

/-- The own-epoch header that ends FALLBACK: the LOOP_RESUMED notice carries the outage timer's value at the return, and
of it and the COMMIT_DONE of a pending commit either is appended first (R25, R26; entry 3). -/
def returnFromFallback (s : State) : State :=
  let notice := ReportBody.loopResumed s.node.outageTimer
  if s.map.commitPending then
    if Config.orderChoice s.freeIndex then frameEvent (enqueueOnly notice (resumeLoop (tookChoice s)))
    else enqueueOnly notice (frameEvent (resumeLoop (tookChoice s)))
  else frameEvent (enqueueOnly notice (resumeLoop s))

/-- A NORMAL header of the node's own epoch, by state (R25). -/
def ownEpochFrame (s : State) : State :=
  match s.node.state with
  | .unaddressed => s
  | .ready => frameEvent s
  | .running => frameEvent (s.withNode { s.node with silenceTimer := some 0 })
  | .fallback => returnFromFallback s

/-- A NORMAL header arrival (R20, R24, R25). -/
def normalHeader (epoch : Byte) (s : State) : State :=
  if s.node.state = .unaddressed then s
  else if s.node.epoch = some epoch then ownEpochFrame s
  else bump ctrEpochMismatches (becomeUnaddressed s)

/-- The queue at every header arrival: the current cycle is taken and the offer count returns to 0 (R61, R71). -/
def queueHeader (cycle : Byte) (s : State) : State :=
  s.withQueue { s.queue with currentCycle := cycle, offerCount := 0 }

/-- A header arrival at the node controller and the queue: the state after it and the new hop count, if any (R20). -/
def headerArrivalAt (k : FrameKind) (h : HeaderBytes) (s : State) : State × Option Byte :=
  match k with
  | .normal => (normalHeader h.epoch (queueHeader h.cycle s), none)
  | .enumerate => enumerate h.hop h.epoch (queueHeader h.cycle s)

/-! ## START and STOP (R27 to R30) -/

/-- The line map validation START makes: none where the scanner is already enabled (R27). -/
def startFailure (s : State) : Option (StartReason × Line) :=
  if s.scanner.enabled then none else validate s.lines.entries

/-- The scanner after a START that passes (R27, R102). -/
def startScanner (s : State) : State :=
  if s.scanner.enabled then s else s.withScanner (s.scanner.enable s.lines.entries)

/-- A START that passes (R27, R28): it clears the start-refused flag. -/
def startNode (s : State) : State :=
  let s' := enterRunning (startScanner s)
  s'.withNode { s'.node with startRefused := none }

/-- STOP in RUNNING (R30); STOP's gate also admits FALLBACK, where no slot reaches it (R169). -/
def stopNode (s : State) : State :=
  let s' := disableScanner false (leaveLoop s)
  s'.withNode { s'.node with state := .ready }

/-- The two data values of a START or STOP reply (R28, R30). -/
def queueReply (s : State) : ReplyData :=
  { noData with d0 := s.queue.oldestSeq, d1 := natByte s.queue.reports.length }

/-- A broadcast START (R29): taken in READY, where a failed validation sets the start-refused flag and counts a refused
request; ignored elsewhere. -/
def broadcastStart (s : State) : State :=
  match s.node.state with
  | .ready =>
    match startFailure s with
    | some failure => bump ctrRefused (s.withNode { s.node with startRefused := some failure })
    | none => startNode s
  | .unaddressed => s
  | .running => s
  | .fallback => s

/-- A broadcast STOP (R30): taken in RUNNING, ignored in UNADDRESSED and READY. -/
def broadcastStop (s : State) : State :=
  match s.node.state with
  | .running => stopNode s
  | .unaddressed => s
  | .ready => s
  | .fallback => s

/-! ## Silence (R31, R32) -/

/-- Expiry of the silence timer in RUNNING: FALLBACK is entered (R32). -/
def enterFallback (s : State) : State :=
  let s1 := goBack (bump ctrFallbackEntries s)
  let s2 := s1.withEngine s1.engine.enterFallback
  s2.withNode { s2.node with state := .fallback, silenceTimer := none, outageTimer := 1 }

end Sys2Proof.Machine
end

