-- ==== Sys2Proof/Machine/Flags.lean ====
section
/-! DEFINITION. The status and flag bytes the block shows: STATUS page 0's flag byte, and the three STATUS pages (R179, R180). -/

namespace Sys2Proof.Machine

/-- STATUS page 0, d0 (10.5): node state, link state, commit-pending, scanner enabled, STALLED, start-refused. -/
def statusFlags (s : State) : Byte :=
  s.node.state.code + 4 * flagByte (s.port.link = .locked) + 8 * flagByte s.map.commitPending
    + 16 * flagByte s.scanner.enabled + 32 * flagByte s.queue.stalled + 64 * flagByte s.node.startRefused.isSome

/-- The start-refused reason and line, both 0 while the flag is clear (R179). -/
def startRefusedBytes (s : State) : Byte × Byte :=
  match s.node.startRefused with
  | none => (0, 0)
  | some (reason, line) => (reason.code, natByte line.val)

/-- STATUS page 0 (R179); a position or epoch of none is 0 (R197). -/
def statusPage0 (s : State) : ReplyData :=
  { d0 := statusFlags s, d1 := s.node.position.getD 0, d2 := s.node.epoch.getD 0,
    d3 := (startRefusedBytes s).1, d4 := (startRefusedBytes s).2 }

/-- STATUS page 1 (R180). -/
def statusPage1 (s : State) : ReplyData :=
  { d0 := natByte s.queue.reports.length, d1 := natByte s.queue.sentCount, d2 := s.queue.nextSeq,
    d3 := s.queue.lost, d4 := 0 }

/-- STATUS page 2 (R180). -/
def statusPage2 (s : State) : ReplyData :=
  { noData with d0 := s.node.lastFallback, d1 := s.port.searchCount }

end Sys2Proof.Machine
end

