-- ==== Sys2Proof/Machine/Requests.lean ====
section
/-! DEFINITION. The 27 management requests: each one's state gate, index, value and resource checks in the order of R167, its
effect and its reply, with the layouts of 10.5. -/

namespace Sys2Proof.Machine

/-- What the checks and the owning block make of a request (R165, R167). -/
inductive Verdict where
  /-- Refused with a status; the data bytes are 0 but for INVALID_CONFIG (R166). -/
  | refused (st : Status) (d : ReplyData)
  /-- Taken: the reply and the state after it. -/
  | taken (st : Status) (d : ReplyData) (s : State)

/-- A refusal whose data bytes are 0. -/
def refuse (st : Status) : Verdict := .refused st noData

/-- A refusal with BAD_INDEX where the index is out of range (R167, step 3). -/
def withIndex {n : Nat} (i : Option (Fin n)) (k : Fin n → Verdict) : Verdict :=
  match i with
  | some x => k x
  | none => refuse .badIndex

/-- A refusal with BAD_VALUE where a value is out of range (R167, step 4). -/
def withValue {α : Type} (v : Option α) (k : α → Verdict) : Verdict :=
  match v with
  | some x => k x
  | none => refuse .badValue

/-- A refusal with this status where a check fails. -/
def require (ok : Bool) (st : Status) (k : Verdict) : Verdict := if ok then k else refuse st

/-! ## The agent's own requests (09) -/

/-- INFO (R178). -/
def reqInfo (a : Args) (s : State) : Verdict :=
  if a.a0 = 0 then .taken .ok { d0 := 0x6B, d1 := 0x0C, d2 := 0x18, d3 := 0x01, d4 := 24 } s
  else if a.a0 = 1 then .taken .ok { d0 := 48, d1 := 32, d2 := 16, d3 := 32, d4 := 128 } s
  else refuse .badValue

/-- STATUS (R179 to R181). -/
def reqStatus (a : Args) (s : State) : Verdict :=
  if a.a0 = 0 then .taken .ok (statusPage0 s) s
  else if a.a0 = 1 then .taken .ok (statusPage1 s) s
  else if a.a0 = 2 then .taken .ok (statusPage2 s) s
  else refuse .badValue

/-- COUNTER (R182): the value is taken before the counter is cleared. -/
def reqCounter (a : Args) (s : State) : Verdict :=
  withIndex (finOf 10 a.a0.toNat) fun n =>
  withValue (flagOf a.a1.toNat) fun clear =>
    let value := (s.counters.get n).toNat
    .taken .ok { d0 := a.a0, d1 := highByte value, d2 := natByte value, d3 := a.a1, d4 := 0 }
      (if clear then clearCounter n s else s)

/-- NODE RESET, addressed (R184): the reset takes place once the reply slot has been sent on. -/
def reqNodeReset (_a : Args) (s : State) : Verdict :=
  .taken .ok noData (s.withNode { s.node with resetDue := true })

/-- BLOCK RESET (R187). -/
def reqBlockReset (a : Args) (s : State) : Verdict :=
  withValue (blockSetOf a.a0) fun b => .taken .ok { noData with d0 := a.a0 } (blockReset b s)

/-- The five settings of LOOP SET in data bytes (R189, R190). -/
def loopData (s : State) : ReplyData :=
  { d0 := s.node.silenceTimeout, d1 := s.queue.window, d2 := s.queue.retryInterval, d3 := s.queue.retryLimit,
    d4 := s.queue.offerLimit }

/-- Whether the five settings are in range (R189). -/
def loopSettingsFit (a : Args) : Bool :=
  2 ≤ a.a0.toNat && a.a0.toNat ≤ 250 && 1 ≤ a.a1.toNat && a.a1.toNat ≤ 8 && 2 ≤ a.a2.toNat && a.a2.toNat ≤ 31
    && a.a3.toNat ≤ 7 && 1 ≤ a.a4.toNat && a.a4.toNat ≤ 8

/-- The five settings written at once (R83, R189). -/
def writeLoopSettings (a : Args) (s : State) : State :=
  let s' := s.withNode { s.node with silenceTimeout := a.a0 }
  s'.withQueue { s'.queue with window := a.a1, retryInterval := a.a2, retryLimit := a.a3, offerLimit := a.a4 }

/-- LOOP SET (R189): its gate is READY. -/
def reqLoopSet (a : Args) (s : State) : Verdict :=
  require (s.node.state = .ready) .wrongState <|
  require (loopSettingsFit a) .badValue <|
    .taken .ok (loopData (writeLoopSettings a s)) (writeLoopSettings a s)

/-- LOOP GET (R190). -/
def reqLoopGet (_a : Args) (s : State) : Verdict := .taken .ok (loopData s) s

/-! ## START and STOP (02) -/

/-- The data of a START refused with INVALID_CONFIG: the reason and the line (R27, R197). -/
def startFailureData (failure : StartReason × Line) : ReplyData :=
  { noData with d0 := failure.1.code, d1 := natByte failure.2.val }

/-- START, addressed (R27 to R29). -/
def reqStart (_a : Args) (s : State) : Verdict :=
  require (s.node.state = .ready) .wrongState <|
    match startFailure s with
    | some failure => .refused .invalidConfig (startFailureData failure)
    | none => .taken .ok (queueReply (startNode s)) (startNode s)

/-- STOP, addressed (R30, R169). -/
def reqStop (_a : Args) (s : State) : Verdict :=
  require (s.node.state = .running || s.node.state = .fallback) .wrongState <|
    .taken .ok (queueReply (stopNode s)) (stopNode s)

/-! ## The slot map's requests (03) -/

/-- An entry in three data bytes of a reply. -/
def mapEntryData (index : Byte) (e : MapEntry) : ReplyData :=
  { d0 := index, d1 := e.e0, d2 := e.e1, d3 := e.e2, d4 := 0 }

/-- MAP WRITE (R49). -/
def reqMapWrite (a : Args) (s : State) : Verdict :=
  withIndex (finOf 48 a.a0.toNat) fun i =>
  withValue (mapEntryOf a.a1 a.a2 a.a3) fun e =>
  require (!s.map.commitPending) .busy <|
    .taken .ok (mapEntryData a.a0 e) (s.withMap { s.map with staging := setAt s.map.staging i e })

/-- The data of MAP READ: the entry, its presence flag in bit 6 of E0, and the last value (R50, 10.5). A PASS or OFFER entry
shows none. -/
def mapReadData (e : MapEntry) (last : Option TakeValue) : ReplyData :=
  match e, last with
  | .take t, some v =>
    { d0 := (MapEntry.take t).e0 + 64, d1 := (MapEntry.take t).e1, d2 := (MapEntry.take t).e2,
      d3 := v.first, d4 := v.second }
  | e, _ => { d0 := e.e0, d1 := e.e1, d2 := e.e2, d3 := 0, d4 := 0 }

/-- MAP READ (R50): a1 is the map selector, 0 ACTIVE or 1 STAGING. -/
def reqMapRead (a : Args) (s : State) : Verdict :=
  withIndex (finOf 48 a.a0.toNat) fun i =>
  withValue (flagOf a.a1.toNat) fun staging =>
    if staging then .taken .ok (mapReadData (s.map.staging.get i) none) s
    else .taken .ok (mapReadData (s.map.active.get i) (s.map.lastValues.get i)) s

/-- MAP COMMIT (R51, R52). -/
def reqMapCommit (_a : Args) (s : State) : Verdict :=
  require (!s.map.commitPending) .busy <|
    match s.map.badEntry? with
    | some i => .refused .invalidConfig { noData with d0 := natByte i.val }
    | none =>
      .taken .pending
        { noData with d0 := natByte (s.map.countStaging MapEntry.isTake),
                      d1 := natByte (s.map.countStaging MapEntry.isOffer) }
        (s.withMap { s.map with commitPending := true })

/-! ## The report queue's requests (04) -/

/-- RESYNC (R80). -/
def reqResync (a : Args) (s : State) : Verdict :=
  .taken .ok { noData with d0 := natByte s.queue.reports.length } (s.withQueue (s.queue.resync a.a0))

/-- FLUSH (R81), with the queue emptied it hands the contact block (R127). -/
def reqFlush (_a : Args) (s : State) : Verdict :=
  .taken .ok { noData with d0 := natByte s.queue.reports.length } (queueEmptied (s.withQueue s.queue.flush))

/-! ## The line map's requests (05) -/

/-- LINE WRITE (R94): its gate is READY with the scanner stopped. -/
def reqLineWrite (a : Args) (s : State) : Verdict :=
  require (s.node.state = .ready && !s.scanner.enabled) .wrongState <|
  withIndex (finOf 24 a.a0.toNat) fun l =>
  withValue (lineEntryOf a.a1 a.a2 a.a3 a.a4) fun e =>
    .taken .ok { d0 := a.a0, d1 := e.function, d2 := e.index, d3 := e.option, d4 := e.polarity } (setLine l e s)

/-- LINE READ (R95): the entry, and the level the pin is sensed at now. -/
def reqLineRead (v : PinView) (a : Args) (s : State) : Verdict :=
  withIndex (finOf 24 a.a0.toNat) fun l =>
    let e := s.lines.entries.get l
    .taken .ok
      { d0 := e.function, d1 := e.index, d2 := e.option, d3 := e.polarity, d4 := flagByte (sensedHigh s l v) } s

/-! ## The scanner's and the contacts' requests (06, 07) -/

/-- SCAN SET of part MATRIX (R115). -/
def reqScanSetMatrix (a : Args) (s : State) : Verdict :=
  require (1 ≤ a.a1.toNat && a.a1.toNat ≤ 32 && 1 ≤ a.a2.toNat && a.a2.toNat ≤ 15) .badValue <|
  require (!s.scanner.enabled) .busy <|
    .taken .ok { noData with d0 := a.a0, d1 := a.a1, d2 := a.a2 }
      (s.withScanner { s.scanner with interval := a.a1, debounce := a.a2 })

/-- SCAN SET of part CONTACT (R131). -/
def reqScanSetContact (a : Args) (s : State) : Verdict :=
  withIndex (finOf 8 a.a1.toNat) fun i =>
  withValue (senseOf a.a2.toNat) fun sense =>
  withValue (filterOf a.a3) fun filter =>
  require (!s.scanner.enabled && !(sense = .whileActive && 2 ≤ (s.contacts.get i).queued)) .busy <|
    .taken .ok { d0 := a.a0, d1 := a.a1, d2 := a.a2, d3 := a.a3, d4 := 0 }
      (setContact i { s.contacts.get i with sense := sense, filter := filter } s)

/-- SCAN SET (R114): the part in a0. -/
def reqScanSet (a : Args) (s : State) : Verdict :=
  if a.a0 = 0 then reqScanSetMatrix a s else if a.a0 = 1 then reqScanSetContact a s else refuse .badValue

/-- SCAN GET of part MATRIX (R116). -/
def scanMatrixData (s : State) : ReplyData :=
  { d0 := s.scanner.interval, d1 := s.scanner.debounce, d2 := flagByte s.scanner.enabled,
    d3 := natByte (16 * s.scanner.rowLines.length + s.scanner.columnLines.length),
    d4 := natByte (heldCount s.scanner.keys) }

/-- SCAN GET of part CONTACT (R132). -/
def scanContactData (c : Contact) : ReplyData :=
  { d0 := c.sense.code, d1 := natByte (16 * c.filter.toNat + c.agree.toNat), d2 := c.filtered.code,
    d3 := flagByte c.held, d4 := natByte c.queued }

/-- SCAN GET (R114): the part in a0. -/
def reqScanGet (a : Args) (s : State) : Verdict :=
  if a.a0 = 0 then .taken .ok (scanMatrixData s) s
  else if a.a0 = 1 then withIndex (finOf 8 a.a1.toNat) fun i => .taken .ok (scanContactData (s.contacts.get i)) s
  else refuse .badValue

/-- Whether a key is BLOCKED. -/
def KeyState.isBlocked : KeyState → Bool
  | .up => false
  | .pressPending _ => false
  | .down => false
  | .releasePending _ => false
  | .blocked => true

/-- KEYS READ (R117). -/
def reqKeysRead (a : Args) (s : State) : Verdict :=
  withIndex (finOf 8 a.a0.toNat) fun row =>
    .taken .ok
      { noData with d0 := a.a0, d1 := columnSet s.scanner.keys row KeyState.isHeld,
                    d2 := columnSet s.scanner.keys row KeyState.isBlocked } s

/-- CONTACTS READ (R133): the active, known, raw and held sets. -/
def reqContactsRead (_a : Args) (s : State) : Verdict :=
  .taken .ok
    { d0 := contactSet s fun c => c.filtered = .active
      d1 := contactSet s fun c => c.filtered ≠ .unknown
      d2 := contactSet s fun c => c.lastRaw
      d3 := contactSet s fun c => c.held
      d4 := 0 } s

/-! ## The indicator engine's requests (08) -/

/-- EFFECT WRITE (R152). -/
def reqEffectWrite (a : Args) (s : State) : Verdict :=
  withIndex (finOf 32 a.a0.toNat) fun i =>
  withValue (effectRecordOf a.a1 a.a2 a.a3 a.a4) fun r =>
  require (!s.engine.inPlay i) .inUse <|
    .taken .ok (effectData a.a0 r) (s.withEngine { s.engine with effects := setAt s.engine.effects i r })

/-- EFFECT READ (R158). -/
def reqEffectRead (a : Args) (s : State) : Verdict :=
  withIndex (finOf 32 a.a0.toNat) fun i => .taken .ok (effectData a.a0 (s.engine.effects.get i)) s

/-- SEGMENT WRITE (R153). -/
def reqSegmentWrite (a : Args) (s : State) : Verdict :=
  withIndex (finOf 128 a.a0.toNat) fun j =>
  require (!s.engine.segmentInUse j) .inUse <|
    .taken .ok { d0 := a.a0, d1 := a.a1, d2 := a.a2, d3 := a.a3, d4 := 0 }
      (s.withEngine
        { s.engine with segments := setAt s.engine.segments j { target := a.a1, ramp := a.a2, hold := a.a3 } })

/-- SEGMENT READ (R158). -/
def reqSegmentRead (a : Args) (s : State) : Verdict :=
  withIndex (finOf 128 a.a0.toNat) fun j =>
    let g := s.engine.segments.get j
    .taken .ok { d0 := a.a0, d1 := g.target, d2 := g.ramp, d3 := g.hold, d4 := flagByte (s.engine.segmentInUse j) } s

/-- CHANNEL SET (R156). -/
def reqChannelSet (a : Args) (s : State) : Verdict :=
  withIndex (finOf 16 a.a0.toNat) fun ch =>
  withValue (fallbackOf a.a1 a.a2) fun f =>
    .taken .ok { noData with d0 := a.a0, d1 := a.a1, d2 := a.a2 }
      (s.withEngine
        { s.engine with channels := setAt s.engine.channels ch { s.engine.channels.get ch with fallback := f } })

/-- CHANNEL GET, page 0 (R157): the last byte is the glide start, the segment start, or 0. -/
def channelPage0 (c : Channel) : ReplyData :=
  { d0 := c.motion.code, d1 := c.level, d2 := c.fallback.code, d3 := c.fallback.value,
    d4 := match c.motion with
      | .steady => 0
      | .gliding start _ _ _ => start
      | .playing _ _ _ segStart _ => segStart }

/-- CHANNEL GET, page 1 (R157): runs left without end are 0. -/
def channelPage1 (c : Channel) : ReplyData :=
  match c.motion with
  | .steady => noData
  | .gliding _ target length elapsed => { noData with d0 := target, d1 := length, d2 := natByte elapsed }
  | .playing i position tick _ runs =>
    { d0 := natByte i.val, d1 := natByte position, d2 := highByte tick, d3 := natByte tick, d4 := runs.getD 0 }

/-- CHANNEL GET (R157). -/
def reqChannelGet (a : Args) (s : State) : Verdict :=
  withIndex (finOf 16 a.a0.toNat) fun ch =>
  withValue (flagOf a.a1.toNat) fun page1 =>
    .taken .ok (if page1 then channelPage1 (s.engine.channels.get ch) else channelPage0 (s.engine.channels.get ch)) s

/-- CHANNEL DRIVE (R155): a selector of 32-254 is refused and not counted as a bad take value. -/
def reqChannelDrive (a : Args) (s : State) : Verdict :=
  withIndex (finOf 16 a.a0.toNat) fun ch =>
  withValue (driveModeOf a.a1.toNat) fun mode =>
  withValue (wideOf a.a2.toNat) fun wide =>
  withValue (s.engine.drive ch mode (takeValueOf wide a.a3 a.a4)) fun e =>
    .taken .ok
      { noData with d0 := a.a0, d1 := (e.channels.get ch).motion.code, d2 := (e.channels.get ch).level }
      (s.withEngine e)

/-! ## The catalogue (9.11) -/

/-- A request checked and, where it passes, carried out (R165, R167). A code that is none of the 27 is refused (R168). -/
def serve (r : Request) (v : PinView) (a : Args) (s : State) : Verdict :=
  match r with
  | .info => reqInfo a s
  | .status => reqStatus a s
  | .counter => reqCounter a s
  | .nodeReset => reqNodeReset a s
  | .blockReset => reqBlockReset a s
  | .loopSet => reqLoopSet a s
  | .loopGet => reqLoopGet a s
  | .start => reqStart a s
  | .stop => reqStop a s
  | .mapWrite => reqMapWrite a s
  | .mapRead => reqMapRead a s
  | .mapCommit => reqMapCommit a s
  | .resync => reqResync a s
  | .flush => reqFlush a s
  | .lineWrite => reqLineWrite a s
  | .lineRead => reqLineRead v a s
  | .scanSet => reqScanSet a s
  | .scanGet => reqScanGet a s
  | .keysRead => reqKeysRead a s
  | .contactsRead => reqContactsRead a s
  | .effectWrite => reqEffectWrite a s
  | .effectRead => reqEffectRead a s
  | .segmentWrite => reqSegmentWrite a s
  | .segmentRead => reqSegmentRead a s
  | .channelSet => reqChannelSet a s
  | .channelGet => reqChannelGet a s
  | .channelDrive => reqChannelDrive a s
  | .unknown _ => refuse .unknownRequest

end Sys2Proof.Machine
end

