-- ==== Sys2Proof/Machine/Agent.lean ====
section
/-! DEFINITION. The management agent (chapter 9): which MGMT slots are taken, the token cache, the reply and the broadcast. -/

namespace Sys2Proof.Machine

/-- What handling a slot gives: the state after it, and the replacement handed to the port, if any (R8). -/
abbrev SlotResult := State × Option SlotBytes

/-! ## The token cache (R172, R173) -/

/-- Whether a cache entry equals a request's token, code and all five argument bytes (R173). -/
def CacheEntry.matches (e : CacheEntry) (token code : Byte) (a : Args) : Bool :=
  e.token = token && e.code = code && e.args = a

/-- The cache entry that answers a request: none for token 0 (R172, R173). -/
def cacheHit (s : State) (token code : Byte) (a : Args) : Option CacheEntry :=
  match s.agent.cache with
  | some e => if token ≠ 0 && e.matches token code a then some e else none
  | none => none

/-- A taken request with a non-zero token replaces the cache entry (R172). -/
def remember (token code : Byte) (a : Args) (st : Status) (d : ReplyData) (s : State) : State :=
  if token = 0 then s else s.withAgent { cache := some { token := token, code := code, args := a, status := st, data := d } }

/-! ## Addressed and broadcast requests -/

/-- An addressed request to the node at `position` (R165, R167): answered from the cache, refused and counted, or taken. -/
def addressed (position token : Byte) (r : Request) (v : PinView) (a : Args) (s : State) : SlotResult :=
  match cacheHit s token r.code a with
  | some e => (s, some (replySlot position token e.status e.data))
  | none =>
    match serve r v a s with
    | .refused st d => (bump ctrRefused s, some (replySlot position token st d))
    | .taken st d s' => (remember token r.code a st d s', some (replySlot position token st d))

/-- A broadcast request (R176): START, STOP and NODE RESET are acted on; no reply is written, and the cache is not touched. -/
def broadcast (r : Request) (s : State) : State :=
  match r with
  | .start => broadcastStart s
  | .stop => broadcastStop s
  | .nodeReset => s.withNode { s.node with resetDue := true }
  | _ => s

/-- The tag of a broadcast (10.3). -/
def broadcastTag : Byte := 0xFE

/-- A MGMT slot handed to the agent, as the node state and its tag allow (R34, R164). -/
def mgmtSlot (tag token : Byte) (r : Request) (v : PinView) (a : Args) (s : State) : SlotResult :=
  if tag = broadcastTag then
    match s.node.state with
    | .unaddressed => (broadcast r s, none)
    | .ready => (broadcast r s, none)
    | .running => (broadcast r s, none)
    | .fallback => (s, none)
  else if s.node.position = some tag then
    match s.node.state with
    | .ready => addressed tag token r v a s
    | .running => addressed tag token r v a s
    | .unaddressed => (s, none)
    | .fallback => (s, none)
  else (s, none)

end Sys2Proof.Machine
end

