-- ==== Sys2Proof/Machine/LoopPort.lean ====
section
/-! DEFINITION. The loop port and the slot handler (chapter 1, R34, R40, R41): marks, headers, slots, what is judged, dispatched
and sent on. -/

namespace Sys2Proof.Machine

/-! ## Link state (R10 to R13) -/

/-- SEARCHING is entered, and counted (R11 to R13). -/
def Port.search (p : Port) : Port :=
  { p with link := .searching, badRun := 0, searchCount := satInc p.searchCount }

/-- The link state after a bad header (R11). -/
def Port.badHeader (p : Port) : Port :=
  match p.link with
  | .locked => if p.badRun = 2 then p.search else { p with badRun := p.badRun + 1 }
  | .searching => p

/-- A bad header, or one cut short, judged: counter 0 and the run of bad headers (R2, R5, R11, R14). -/
def badHeader (s : State) : State := bump ctrHeaderErrors (s.withPort s.port.badHeader)

/-- A good header enters LOCKED and ends the run of bad headers (R10). -/
def goodHeader (s : State) : State := s.withPort { s.port with link := .locked, badRun := 0 }

/-! ## Marks (R1, R5) -/

/-- What a mark ends early is judged: a header cut short is a bad header, and a delivered frame cut short before its S-th slot
counts one slot check error (R5). -/
def closeFrame (s : State) : State :=
  match s.port.frame with
  | .noFrame => s
  | .header => badHeader s
  | .slots count index (some _) => if index < count.toNat then bump ctrSlotErrors s else s
  | .slots _ _ none => s

/-- A start mark: it ends an open frame, begins a frame record and restarts the mark timer (R1, R5, R12). -/
def startMarkArrives (tail : List Byte) (s : State) : State :=
  let s' := sendOn (.startMark tail) (setFrame .header (closeFrame s))
  s'.withPort { s'.port with markTimer := 0 }

/-- An end mark: it closes the frame (R1, R5). -/
def endMarkArrives (tail : List Byte) (s : State) : State :=
  sendOn (.endMark tail) (setFrame .noFrame (closeFrame s))

/-! ## Headers (R2, R9) -/

/-- What a header is judged to be (R2). -/
inductive HeaderJudgement where
  | bad
  | unknownKind
  | delivered (k : FrameKind)
  deriving DecidableEq, Repr

/-- The judgement of R2's table. -/
def judgeHeader (h : HeaderBytes) : HeaderJudgement :=
  if h.check ≠ headerCheck h then .bad
  else if h.slots.toNat = 0 ∨ 48 < h.slots.toNat then .bad
  else match FrameKind.ofCode h.kind with
    | some k => .delivered k
    | none => .unknownKind

/-- The header as it is sent on: with a new hop count where one was handed over (R9). -/
def sentHeader (h : HeaderBytes) (hop : Option Byte) : HeaderBytes :=
  match hop with
  | some x => withHop h x
  | none => h

/-- A delivered header: the good-frames counter, LOCKED, the frame record, and the header arrival (R2, R10, R14, R18). -/
def deliverHeader (k : FrameKind) (h : HeaderBytes) (s : State) : State :=
  let s' := setFrame (.slots h.slots 0 (some k)) (goodHeader (bump ctrGoodFrames s))
  let r := headerArrivalAt k h s'
  sendOn (.header (sentHeader h r.2)) r.1

/-- The sixth byte after a start mark (R2). Six bytes where no header is awaited are repeated, and nothing else (R1). -/
def headerArrives (h : HeaderBytes) (s : State) : State :=
  match s.port.frame with
  | .header =>
    match judgeHeader h with
    | .bad => sendOn (.header h) (setFrame (.slots h.slots 0 none) (badHeader s))
    | .unknownKind =>
      sendOn (.header h) (setFrame (.slots h.slots 0 none) (goodHeader (bump ctrUnknownKinds s)))
    | .delivered k => deliverHeader k h s
  | .noFrame => sendOn (.header h) s
  | .slots _ _ _ => sendOn (.header h) s

/-! ## Slots (R3, R4, R6, R34, R41) -/

/-- A good slot of known kind dispatched in a NORMAL frame, as the node state and the active entry allow (R34, R41). -/
def dispatchSlot (k : SlotKind) (index : Nat) (b : SlotBytes) (v : PinView) (s : State) : SlotResult :=
  match k with
  | .void => (s, none)
  | .mgmtReply => (s, none)
  | .data => if s.node.state = .running then (dataSlot index b.payload s, none) else (s, none)
  | .container =>
    if s.node.state = .running && activeEntry s index = .offer then offer b.tag s else (s, none)
  | .ackList =>
    if s.node.state = .ready || s.node.state = .running then (ackList b.payload s, none) else (s, none)
  | .mgmt => mgmtSlot b.tag b.payload.p0 (Request.ofCode b.payload.p1) v (argsOf b.payload) s

/-- A slot of a delivered frame judged: bad, of unknown kind, or dispatched; no slot of an ENUMERATE frame is acted on
(R3, R4, R6, R21). -/
def judgeSlot (b : SlotBytes) (v : PinView) (kind : FrameKind) (index : Nat) (s : State) : SlotResult :=
  if b.check ≠ slotCheck b.kind b.tag b.payload then (bump ctrSlotErrors s, none)
  else match SlotKind.ofCode b.kind with
    | none => (bump ctrUnknownKinds s, none)
    | some k =>
      match kind with
      | .normal => dispatchSlot k index b v s
      | .enumerate => (s, none)

/-- The slot is sent on, as it came or replaced, and the index advances (R3, R4, R8). -/
def finishSlot (count : Byte) (index : Nat) (d : Option FrameKind) (b : SlotBytes) (r : SlotResult) : State :=
  sendOn (.slot (r.2.getD b)) (setFrame (.slots count (index + 1) d) r.1)

/-- Ten bytes where a slot may be: the next slot of a delivered frame is judged by `judge`; of any other frame it is counted and
repeated; past the S-th slot, or with no frame, the bytes are repeated and not examined (R1, R3, R5). -/
def slotArrives (b : SlotBytes) (judge : FrameKind → Nat → State → SlotResult) (s : State) : State :=
  match s.port.frame with
  | .slots count index (some k) =>
    if index < count.toNat then finishSlot count index (some k) b (judge k index s) else sendOn (.slot b) s
  | .slots count index none =>
    if index < count.toNat then finishSlot count index none b (s, none) else sendOn (.slot b) s
  | .header => sendOn (.slot b) s
  | .noFrame => sendOn (.slot b) s

/-- A MGMT slot of good check in a frame of this kind: what the agent makes of it (R21, R164). -/
def requestArrives (tag token : Byte) (r : Request) (v : PinView) (a : Args) (kind : FrameKind) (s : State) :
    SlotResult :=
  match kind with
  | .normal => mgmtSlot tag token r v a s
  | .enumerate => (s, none)

/-- The next slot is a MGMT slot of good check that carries this request (R163, R164; entry 8). -/
def requestCommand (tag token : Byte) (r : Request) (v : PinView) (a : Args) (s : State) : State :=
  whenOperating (fun s =>
    slotArrives (requestSlot tag token r.code a) (fun kind _ s => requestArrives tag token r v a kind s)
      (settleReset s)) s

/-- The view of the pins for a request that senses none. -/
def noPins : PinView := { held := 0, level := 0, pwmStep := 0 }

/-! ## The mark timer (R12, R13) -/

/-- A delivered frame still open is abandoned (R13). -/
def FrameRecord.abandon (f : FrameRecord) : FrameRecord :=
  match f with
  | .slots _ _ (some _) => .noFrame
  | .slots c i none => .slots c i none
  | .header => .header
  | .noFrame => .noFrame

/-- The mark timer's limit, 10 ms (R12). -/
def markLimit : Nat := 10

/-- The mark timer expires: LOCKED enters SEARCHING and abandons an open delivered frame; the timer then rests, expired, until a
start mark restarts it, and a timer that rests does not expire again (R12, R13). Where a start mark and the expiry come together, R12 says
that their two orders differ in the link state shown "and in nothing else", while an expiry taken first counts a search (R13), clears the
run (R12) and abandons an open frame without the slot check error that R5 counts where the mark is first. The model gives each order these
effects: DESIGN CHOICE (entry 18). -/
def markTimerExpires (s : State) : State :=
  if markLimit ≤ s.port.markTimer then s
  else match s.port.link with
    | .locked =>
      s.withPort { s.port.search with markTimer := markLimit, frame := s.port.frame.abandon }
    | .searching => s.withPort { s.port with markTimer := markLimit }

end Sys2Proof.Machine
end

