-- ==== Sys2Proof/Machine/PortCommands.lean ====
section
/-! DEFINITION. The commands of the loop input (chapter 1). A NODE RESET that awaits the sending-on of its slot takes place before
the part that arrives is judged (R184; entry 4). -/

namespace Sys2Proof.Machine

/-- START_MARK (R1, R5, R12). -/
def execStartMark (tail : List Byte) (s : State) : Outcome :=
  .next (whenOperating (fun s => startMarkArrives tail (settleReset s)) s)

/-- HEADER_ARRIVAL (R2). -/
def execHeaderArrival (h : HeaderBytes) (s : State) : Outcome :=
  .next (whenOperating (fun s => headerArrives h (settleReset s)) s)

/-- SLOT_ARRIVAL (R3). -/
def execSlotArrival (b : SlotBytes) (v : PinView) (s : State) : Outcome :=
  .next (whenOperating (fun s => slotArrives b (judgeSlot b v) (settleReset s)) s)

/-- END_MARK (R1, R5). -/
def execEndMark (tail : List Byte) (s : State) : Outcome :=
  .next (whenOperating (fun s => endMarkArrives tail (settleReset s)) s)

/-- MARK_TIMER_EXPIRY (R12, R13). -/
def execMarkTimerExpiry (s : State) : Outcome := .next (whenOperating markTimerExpires s)

end Sys2Proof.Machine
end

