-- ==== Sys2Proof/Machine/RequestCommands.lean ====
section
/-! DEFINITION. The commands that are rows for one management request each: the MGMT slot that carries the request arrives as the next
slot (entry 8). What each request does stands in Machine/Requests.lean. -/

namespace Sys2Proof.Machine

/-- INFO (R178). -/
def execInfo (tag token : Byte) (a : Args) (s : State) : Outcome :=
  .next (requestCommand tag token .info noPins a s)

/-- STATUS (R179). -/
def execStatus (tag token : Byte) (a : Args) (s : State) : Outcome :=
  .next (requestCommand tag token .status noPins a s)

/-- COUNTER (R182). -/
def execCounter (tag token : Byte) (a : Args) (s : State) : Outcome :=
  .next (requestCommand tag token .counter noPins a s)

/-- NODE_RESET (R184, R186). -/
def execNodeReset (tag token : Byte) (a : Args) (s : State) : Outcome :=
  .next (requestCommand tag token .nodeReset noPins a s)

/-- BLOCK_RESET (R187). -/
def execBlockReset (tag token : Byte) (a : Args) (s : State) : Outcome :=
  .next (requestCommand tag token .blockReset noPins a s)

/-- LOOP_SET (R189). -/
def execLoopSet (tag token : Byte) (a : Args) (s : State) : Outcome :=
  .next (requestCommand tag token .loopSet noPins a s)

/-- LOOP_GET (R190). -/
def execLoopGet (tag token : Byte) (a : Args) (s : State) : Outcome :=
  .next (requestCommand tag token .loopGet noPins a s)

/-- START (R27 to R29). -/
def execStart (tag token : Byte) (a : Args) (s : State) : Outcome :=
  .next (requestCommand tag token .start noPins a s)

/-- STOP (R30). -/
def execStop (tag token : Byte) (a : Args) (s : State) : Outcome :=
  .next (requestCommand tag token .stop noPins a s)

/-- MAP_WRITE (R49). -/
def execMapWrite (tag token : Byte) (a : Args) (s : State) : Outcome :=
  .next (requestCommand tag token .mapWrite noPins a s)

/-- MAP_READ (R50). -/
def execMapRead (tag token : Byte) (a : Args) (s : State) : Outcome :=
  .next (requestCommand tag token .mapRead noPins a s)

/-- MAP_COMMIT (R51, R52). -/
def execMapCommit (tag token : Byte) (a : Args) (s : State) : Outcome :=
  .next (requestCommand tag token .mapCommit noPins a s)

/-- RESYNC (R80). -/
def execResync (tag token : Byte) (a : Args) (s : State) : Outcome :=
  .next (requestCommand tag token .resync noPins a s)

/-- FLUSH (R81). -/
def execFlush (tag token : Byte) (a : Args) (s : State) : Outcome :=
  .next (requestCommand tag token .flush noPins a s)

/-- LINE_WRITE (R94). -/
def execLineWrite (tag token : Byte) (a : Args) (s : State) : Outcome :=
  .next (requestCommand tag token .lineWrite noPins a s)

/-- LINE_READ (R95). -/
def execLineRead (tag token : Byte) (a : Args) (v : PinView) (s : State) : Outcome :=
  .next (requestCommand tag token .lineRead v a s)

/-- SCAN_SET (R115, R131). -/
def execScanSet (tag token : Byte) (a : Args) (s : State) : Outcome :=
  .next (requestCommand tag token .scanSet noPins a s)

/-- SCAN_GET (R116, R132). -/
def execScanGet (tag token : Byte) (a : Args) (s : State) : Outcome :=
  .next (requestCommand tag token .scanGet noPins a s)

/-- KEYS_READ (R117). -/
def execKeysRead (tag token : Byte) (a : Args) (s : State) : Outcome :=
  .next (requestCommand tag token .keysRead noPins a s)

/-- CONTACTS_READ (R133). -/
def execContactsRead (tag token : Byte) (a : Args) (s : State) : Outcome :=
  .next (requestCommand tag token .contactsRead noPins a s)

/-- EFFECT_WRITE (R152). -/
def execEffectWrite (tag token : Byte) (a : Args) (s : State) : Outcome :=
  .next (requestCommand tag token .effectWrite noPins a s)

/-- EFFECT_READ (R158). -/
def execEffectRead (tag token : Byte) (a : Args) (s : State) : Outcome :=
  .next (requestCommand tag token .effectRead noPins a s)

/-- SEGMENT_WRITE (R153). -/
def execSegmentWrite (tag token : Byte) (a : Args) (s : State) : Outcome :=
  .next (requestCommand tag token .segmentWrite noPins a s)

/-- SEGMENT_READ (R158). -/
def execSegmentRead (tag token : Byte) (a : Args) (s : State) : Outcome :=
  .next (requestCommand tag token .segmentRead noPins a s)

/-- CHANNEL_SET (R156). -/
def execChannelSet (tag token : Byte) (a : Args) (s : State) : Outcome :=
  .next (requestCommand tag token .channelSet noPins a s)

/-- CHANNEL_GET (R157). -/
def execChannelGet (tag token : Byte) (a : Args) (s : State) : Outcome :=
  .next (requestCommand tag token .channelGet noPins a s)

/-- CHANNEL_DRIVE (R155). -/
def execChannelDrive (tag token : Byte) (a : Args) (s : State) : Outcome :=
  .next (requestCommand tag token .channelDrive noPins a s)

/-- UNKNOWN_REQUEST (R168). A code that is one of the 27 names that request. -/
def execUnknownRequest (tag token code : Byte) (a : Args) (s : State) : Outcome :=
  .next (requestCommand tag token (Request.ofCode code) noPins a s)

end Sys2Proof.Machine
end

