-- ==== Sys2Proof/Machine/ScanCommands.lean ====
section
/-! DEFINITION. The commands of the scanner's passes (R105 to R107). -/

namespace Sys2Proof.Machine

/-- PASS_START (R105): only an enabled scanner makes passes, and a pass is complete before the next begins. -/
def execPassStart (s : State) : Outcome :=
  .next (whenOperating (fun s =>
    if s.scanner.enabled && s.scanner.pass = none then s.withScanner s.scanner.startPass else s) s)

/-- COLUMN_SETTLED (R106): the rows of the column being read are sensed, and the next column is driven. -/
def execColumnSettled (v : PinView) (s : State) : Outcome :=
  .next (whenOperating (fun s =>
    match s.scanner.pass with
    | some p => if p.column < s.scanner.columnLines.length then settleColumn v p s else s
    | none => s) s)

/-- PASS_COMPLETION (R107): when the last column has been read. -/
def execPassCompletion (v : PinView) (s : State) : Outcome :=
  .next (whenOperating (fun s =>
    match s.scanner.pass with
    | some p => if p.column < s.scanner.columnLines.length then s else completePass v p s
    | none => s) s)

end Sys2Proof.Machine
end

