-- ==== Sys2Proof/Machine/TimerCommands.lean ====
section
/-! DEFINITION. The commands of the node controller's timers, and the two blocks' parts of a frame event that the table lists as
steps of their own (entry 8). -/

namespace Sys2Proof.Machine

/-- SILENCE_TIMER_EXPIRY (R32): the timer runs in RUNNING alone, so it expires in no other state (R31). -/
def execSilenceTimerExpiry (s : State) : Outcome :=
  .next (whenOperating (fun s => if s.node.state = .running then enterFallback s else s) s)

/-- OUTAGE_TIMER_STEP (R26): a further 10 ms in FALLBACK, saturating at 255. -/
def execOutageTimerStep (s : State) : Outcome :=
  .next (whenOperating (fun s =>
    if s.node.state = .fallback then s.withNode { s.node with outageTimer := satInc s.node.outageTimer } else s) s)

/-- Whether an own-epoch NORMAL header has been handled and no slot of its frame has been dispatched, so that the frame event of
R20 is the one in hand: the frame is a delivered NORMAL one at its first slot, and the header's change of state has left the node in
READY or RUNNING (R20, R25, R53). A header of another epoch leaves it UNADDRESSED (R24), and no own-epoch header leaves it in FALLBACK. -/
def atFrameEvent (s : State) : Bool :=
  match s.port.frame with
  | .slots _ 0 (some .normal) => s.node.state = .ready || s.node.state = .running
  | _ => false

/-- TIMEOUT_GO_BACK (R77): the timeout go-back of the frame event in hand, where its increment has taken the ack timer to Rt (R76).
At any other moment there is no frame event and nothing changes. HEADER_ARRIVAL makes the timeout with the increment, so in a run
it leaves none to make: DESIGN CHOICE (entry 15). -/
def execTimeoutGoBack (s : State) : Outcome :=
  .next (whenOperating (fun s => if atFrameEvent s && s.queue.timeoutReached s.node.state then s.withQueue s.queue.timeout else s) s)

/-- COMMIT_CARRIED_OUT (R53, R54): the slot map's part of the frame event in hand. At any other moment, in FALLBACK, between two slots
and outside a frame, there is no frame event and a commit stays pending (R40, R55, R56). HEADER_ARRIVAL carries a pending commit out
itself, so in a run it leaves none to carry out: DESIGN CHOICE (entry 15). -/
def execCommitCarriedOut (s : State) : Outcome :=
  .next (whenOperating (fun s => if atFrameEvent s then mapFrameEvent s else s) s)

end Sys2Proof.Machine
end

