-- ==== Sys2Proof/Machine/Dispatch.lean ====
section
/-! DEFINITION. exec: one arm per command, each a direct call of that command's meaning. -/

namespace Sys2Proof.Machine

def exec (i : Instr) (s : State) : Host.Outcome State Fault Refusal :=
  match i with
  | .powerOnReset => Sys2Proof.Machine.execPowerOnReset s
  | .pinReset pulse => Sys2Proof.Machine.execPinReset pulse s
  | .resetReleased => Sys2Proof.Machine.execResetReleased s
  | .startUpComplete => Sys2Proof.Machine.execStartUpComplete s
  | .startMark tail => Sys2Proof.Machine.execStartMark tail s
  | .headerArrival h => Sys2Proof.Machine.execHeaderArrival h s
  | .timeoutGoBack => Sys2Proof.Machine.execTimeoutGoBack s
  | .commitCarriedOut => Sys2Proof.Machine.execCommitCarriedOut s
  | .slotArrival b v => Sys2Proof.Machine.execSlotArrival b v s
  | .endMark tail => Sys2Proof.Machine.execEndMark tail s
  | .markTimerExpiry => Sys2Proof.Machine.execMarkTimerExpiry s
  | .silenceTimerExpiry => Sys2Proof.Machine.execSilenceTimerExpiry s
  | .outageTimerStep => Sys2Proof.Machine.execOutageTimerStep s
  | .passStart => Sys2Proof.Machine.execPassStart s
  | .columnSettled v => Sys2Proof.Machine.execColumnSettled v s
  | .passCompletion v => Sys2Proof.Machine.execPassCompletion v s
  | .indicatorTick => Sys2Proof.Machine.execIndicatorTick s
  | .glideEnd ch => Sys2Proof.Machine.execGlideEnd ch s
  | .segmentEnd ch => Sys2Proof.Machine.execSegmentEnd ch s
  | .pulseWidthPeriod => Sys2Proof.Machine.execPulseWidthPeriod s
  | .info tag token a => Sys2Proof.Machine.execInfo tag token a s
  | .status tag token a => Sys2Proof.Machine.execStatus tag token a s
  | .counter tag token a => Sys2Proof.Machine.execCounter tag token a s
  | .nodeReset tag token a => Sys2Proof.Machine.execNodeReset tag token a s
  | .nodeResetTakesPlace => Sys2Proof.Machine.execNodeResetTakesPlace s
  | .blockReset tag token a => Sys2Proof.Machine.execBlockReset tag token a s
  | .loopSet tag token a => Sys2Proof.Machine.execLoopSet tag token a s
  | .loopGet tag token a => Sys2Proof.Machine.execLoopGet tag token a s
  | .start tag token a => Sys2Proof.Machine.execStart tag token a s
  | .stop tag token a => Sys2Proof.Machine.execStop tag token a s
  | .mapWrite tag token a => Sys2Proof.Machine.execMapWrite tag token a s
  | .mapRead tag token a => Sys2Proof.Machine.execMapRead tag token a s
  | .mapCommit tag token a => Sys2Proof.Machine.execMapCommit tag token a s
  | .resync tag token a => Sys2Proof.Machine.execResync tag token a s
  | .flush tag token a => Sys2Proof.Machine.execFlush tag token a s
  | .lineWrite tag token a => Sys2Proof.Machine.execLineWrite tag token a s
  | .lineRead tag token a v => Sys2Proof.Machine.execLineRead tag token a v s
  | .scanSet tag token a => Sys2Proof.Machine.execScanSet tag token a s
  | .scanGet tag token a => Sys2Proof.Machine.execScanGet tag token a s
  | .keysRead tag token a => Sys2Proof.Machine.execKeysRead tag token a s
  | .contactsRead tag token a => Sys2Proof.Machine.execContactsRead tag token a s
  | .effectWrite tag token a => Sys2Proof.Machine.execEffectWrite tag token a s
  | .effectRead tag token a => Sys2Proof.Machine.execEffectRead tag token a s
  | .segmentWrite tag token a => Sys2Proof.Machine.execSegmentWrite tag token a s
  | .segmentRead tag token a => Sys2Proof.Machine.execSegmentRead tag token a s
  | .channelSet tag token a => Sys2Proof.Machine.execChannelSet tag token a s
  | .channelGet tag token a => Sys2Proof.Machine.execChannelGet tag token a s
  | .channelDrive tag token a => Sys2Proof.Machine.execChannelDrive tag token a s
  | .unknownRequest tag token code a => Sys2Proof.Machine.execUnknownRequest tag token code a s
  | .powerLoss => Sys2Proof.Machine.execPowerLoss s

end Sys2Proof.Machine
end

