-- ==== Sys2Proof/Machine/Step.lean ====
section
/-! DEFINITION. step: the command at the front of the queue is taken, and its outcome answered; an empty queue idles (entry 2). -/

namespace Sys2Proof.Machine

/-- One step: the front command is run with the queue's rest, and an empty queue leaves the state as it is (entry 2). -/
def step (s : State) : Host.Outcome State Fault Refusal :=
  match s.pending with
  | [] => .next s
  | c :: rest => exec c (s.withPending rest)

/-- `s` with the command a word of the table spells put at the front of its queue; unchanged where the word spells none, as every
word does here (entry 13). -/
def State.withFetchWord (s : State) (nbits w : Nat) : State :=
  match decodeTableWord nbits w with
  | some c => s.withPending (c :: s.pending)
  | none => s

end Sys2Proof.Machine
end

