-- ==== Sys2Proof/Safety.lean ====
section
/-! DEFINITION. The words claims are stated in: which states take which part of a frame, what a slot's answer leaves, and the
invariants that the rules keep. Nothing here is part of the step. -/

namespace Sys2Proof.Machine

/-! ## What a state is ready for -/

/-- The node is in operation, and no NODE RESET awaits the sending-on of its slot. -/
abbrev State.awake (s : State) : Prop := s.phase = .operating ∧ s.node.resetDue = false

/-- A header is awaited: a start mark began the frame (R1). -/
abbrev State.awaitsHeader (s : State) : Prop := s.awake ∧ s.port.frame = .header

/-- Slot `index` of a delivered frame of this kind and `count` slots arrives next (R1, R3). -/
abbrev State.awaitsSlot (s : State) (kind : FrameKind) (count : Byte) (index : Nat) : Prop :=
  s.awake ∧ s.port.frame = .slots count index (some kind) ∧ index < count.toNat

/-- An addressed request with this tag in the next slot is taken by the node (R34, R164). -/
abbrev State.serves (s : State) (tag count : Byte) (index : Nat) : Prop :=
  s.awaitsSlot .normal count index ∧ s.node.position = some tag ∧ tag ≠ 0xFE ∧
    (s.node.state = .ready ∨ s.node.state = .running)

/-- A request does not match the token cache (R172, R173). -/
abbrev State.fresh (s : State) (token code : Byte) (a : Args) : Prop :=
  token = 0 ∨ ∀ e ∈ s.agent.cache, ¬(e.token = token ∧ e.code = code ∧ e.args = a)

/-- A header of good check, slot count 1-48 and known kind (R2). -/
abbrev deliverable (h : HeaderBytes) : Prop :=
  h.check = headerCheck h ∧ 1 ≤ h.slots.toNat ∧ h.slots.toNat ≤ 48

/-- A slot of good check (R192). -/
abbrev goodSlot (b : SlotBytes) : Prop := b.check = slotCheck b.kind b.tag b.payload

/-- The commands of the supply and the RESET pin (R15, R16). -/
def isSupplyCommand : Instr → Bool
  | .powerOnReset => true
  | .powerLoss => true
  | .pinReset _ => true
  | .resetReleased => true
  | .startUpComplete => true
  | _ => false

/-- The commands before whose effect a due NODE RESET takes place: its own row, and every part of the line stream, requests among
them (R184; entry 4). -/
def settlesReset (c : Instr) : Bool :=
  match c with
  | .nodeResetTakesPlace => true
  | .startMark _ => true
  | .headerArrival _ => true
  | .slotArrival _ _ => true
  | .endMark _ => true
  | c => c.request?.isSome

/-- The commands that bring a BLOCK RESET naming SLOT_MAP (bit 3 of its set): its row, the good MGMT slot that carries it, and the
ill-formed row UNKNOWN_REQUEST of its code (R57, R187; entry 8). -/
def blockResetOfMap (c : Instr) : Bool :=
  match c with
  | .blockReset _ _ a => a.a0.getLsbD 3
  | .unknownRequest _ _ code a => code = 0x05 && a.a0.getLsbD 3
  | .slotArrival b _ => decide (goodSlot b) && b.kind = 0x04 && b.payload.p1 = 0x05 && b.payload.p2.getLsbD 3
  | _ => false

/-- The row of the table for a request. -/
def requestRow (r : Request) (tag token : Byte) (a : Args) (v : PinView) : Instr :=
  match r with
  | .info => .info tag token a
  | .status => .status tag token a
  | .counter => .counter tag token a
  | .nodeReset => .nodeReset tag token a
  | .blockReset => .blockReset tag token a
  | .loopSet => .loopSet tag token a
  | .loopGet => .loopGet tag token a
  | .start => .start tag token a
  | .stop => .stop tag token a
  | .mapWrite => .mapWrite tag token a
  | .mapRead => .mapRead tag token a
  | .mapCommit => .mapCommit tag token a
  | .resync => .resync tag token a
  | .flush => .flush tag token a
  | .lineWrite => .lineWrite tag token a
  | .lineRead => .lineRead tag token a v
  | .scanSet => .scanSet tag token a
  | .scanGet => .scanGet tag token a
  | .keysRead => .keysRead tag token a
  | .contactsRead => .contactsRead tag token a
  | .effectWrite => .effectWrite tag token a
  | .effectRead => .effectRead tag token a
  | .segmentWrite => .segmentWrite tag token a
  | .segmentRead => .segmentRead tag token a
  | .channelSet => .channelSet tag token a
  | .channelGet => .channelGet tag token a
  | .channelDrive => .channelDrive tag token a
  | .unknown code => .unknownRequest tag token code a

/-! ## What a part leaves -/

/-- The state once a slot of a delivered frame has been dealt with: `b` is sent on in its place and the index has advanced. -/
def State.slotSent (t : State) (kind : FrameKind) (count : Byte) (index : Nat) (b : SlotBytes) : State :=
  { t with port := { t.port with loopOut := .part (.slot b), frame := .slots count (index + 1) (some kind) } }

/-- The state once a taken request with this reply has been entered in the token cache (R172). -/
def State.cached (t : State) (token code : Byte) (a : Args) (st : Status) (d : ReplyData) : State :=
  if token = 0 then t
  else { t with agent := { cache := some { token := token, code := code, args := a, status := st, data := d } } }

/-- The state once a taken request has been answered: `t` with the reply sent on in the request's slot and the cache
entry made (R165, R166, R172). -/
def State.replied (t : State) (count : Byte) (index : Nat) (tag token code : Byte) (a : Args) (st : Status)
    (d : ReplyData) : State :=
  (t.cached token code a st d).slotSent .normal count index (replySlot tag token st d)

/-- The state once a request has been refused: counter 8 has counted, and the refusal is sent on (R166, R167). -/
def State.refusal (s : State) (count : Byte) (index : Nat) (tag token : Byte) (st : Status) (d : ReplyData) : State :=
  (bump ctrRefused s).slotSent .normal count index (replySlot tag token st d)

/-- The state once a header has been sent on as `h'` and its frame of `count` slots has begun. -/
def State.headerSent (t : State) (count : Byte) (kind : Option FrameKind) (h' : HeaderBytes) : State :=
  { t with port := { t.port with loopOut := .part (.header h'), frame := .slots count 0 kind } }

/-- The state a delivered header is handed to the blocks in: the frame counted, LOCKED, the cycle taken and the offer
count at 0 (R2, R10, R61, R71). -/
def State.headerTaken (s : State) (h : HeaderBytes) : State :=
  { bump ctrGoodFrames s with
    port := { s.port with link := .locked, badRun := 0 }
    queue := { s.queue with currentCycle := h.cycle, offerCount := 0 } }

/-- The queue as the node's departure from its state leaves it: a go-back on leaving RUNNING or FALLBACK (R23, R79). -/
def queueOnLeaving (n : NodeCtl) (q : Queue) : Queue :=
  if n.state = .running ∨ n.state = .fallback then q.goBack else q

/-! ## Invariants -/

/-- Supply and reset (R15, R16): the node is held while, and only while, it is powered with RESET low; LOUT is undriven
without supply and idle while BYPASS is asserted. -/
abbrev SupplyInv (s : State) : Prop :=
  (s.phase = .heldInReset → s.resetPinLow = true) ∧
  (s.phase = .starting ∨ s.phase = .operating → s.resetPinLow = false) ∧
  (s.bypass = .asserted → s.port.loopOut = .idle) ∧
  (s.bypass = .undriven ↔ s.port.loopOut = .undriven)

/-- Whether a frame record may stand in this link state: a delivered frame is open in LOCKED alone and has 1-48 slots, and
the index does not pass the slot count (R1, R2, R13). -/
def frameFits (link : LinkState) : FrameRecord → Bool
  | .noFrame => true
  | .header => true
  | .slots count index none => index ≤ count.toNat
  | .slots count index (some _) => link = .locked && 1 ≤ count.toNat && count.toNat ≤ 48 && index ≤ count.toNat

/-- Loop port (R1, R2, R11 to R13): in SEARCHING the run of bad headers is 0 and no delivered frame is open; the mark timer
does not pass 10 ms. -/
abbrev PortInv (s : State) : Prop :=
  s.port.markTimer ≤ 10 ∧ (s.port.link = .searching → s.port.badRun = 0) ∧ frameFits s.port.link s.port.frame = true

/-- Whether the frame stands between a delivered NORMAL header and its first slot. -/
def atFirstSlot : FrameRecord → Bool
  | .slots _ 0 (some .normal) => true
  | _ => false

/-- Frame event (R20, R53, R56): once an own-epoch NORMAL header has been handled, no commit is pending before the frame's first slot,
so HEADER_ARRIVAL leaves nothing to COMMIT_CARRIED_OUT. -/
abbrev FrameEventInv (s : State) : Prop :=
  atFirstSlot s.port.frame = true → s.node.state ≠ .unaddressed → s.map.commitPending = false

/-- Node controller (R19, R26, R31, R36): a position 1-60 and an epoch are held exactly outside UNADDRESSED; the silence
timer runs exactly in RUNNING, the outage timer exactly in FALLBACK; the silence timeout is 2-250 ms. -/
abbrev NodeInv (s : State) : Prop :=
  (s.node.position.isSome = true ↔ s.node.state ≠ .unaddressed) ∧
  (s.node.epoch.isSome = true ↔ s.node.state ≠ .unaddressed) ∧
  (∀ p ∈ s.node.position, 1 ≤ p.toNat ∧ p.toNat ≤ 60) ∧
  (s.node.silenceTimer.isSome = true ↔ s.node.state = .running) ∧
  (s.node.outageTimer ≠ 0 ↔ s.node.state = .fallback) ∧
  2 ≤ s.node.silenceTimeout.toNat ∧ s.node.silenceTimeout.toNat ≤ 250

/-- Whether a last value has the width of the active entry that holds it (R39). -/
def lastValueFits (e : MapEntry) (v : Option TakeValue) : Bool :=
  match e, v with
  | _, none => true
  | .take t, some (.one _) => !t.wide
  | .take t, some (.two _ _) => t.wide
  | .pass, some _ => false
  | .offer, some _ => false

/-- Slot map (R38, R39, R52): no active entry reads past the payload, nor does a staged one while a commit is pending; a
last value has its entry's width. -/
abbrev MapInv (s : State) : Prop :=
  (∀ i, (s.map.active.get i).fits = true) ∧
  (s.map.commitPending = true → ∀ i, (s.map.staging.get i).fits = true) ∧
  (∀ i, lastValueFits (s.map.active.get i) (s.map.lastValues.get i) = true)

/-- The sequence numbers of `n` reports that end just before `next`, oldest first (R63). -/
def numbersBefore (next : Byte) : Nat → List Byte
  | 0 => []
  | n + 1 => (next - natByte (n + 1)) :: numbersBefore next n

/-- The four settings of the queue in their ranges (R83). -/
abbrev queueSettingsFit (q : Queue) : Prop :=
  1 ≤ q.window.toNat ∧ q.window.toNat ≤ 8 ∧ 2 ≤ q.retryInterval.toNat ∧ q.retryInterval.toNat ≤ 31 ∧
  q.retryLimit.toNat ≤ 7 ∧ 1 ≤ q.offerLimit.toNat ∧ q.offerLimit.toNat ≤ 8

/-- Report queue (R60, R63 to R66, R70, R71, R76, R78, R83): at most 31 ordinary reports and one OVERRUN, numbered
consecutively up to the next number; the SENT reports are the oldest, at most W, in RUNNING alone and never while STALLED;
so are the ever-sent ones the oldest; the ack timer runs below Rt exactly while a report is SENT; losses are held only while
an OVERRUN report is in the queue. -/
abbrev QueueInv (s : State) : Prop :=
  s.queue.ordinaryCount ≤ 31 ∧
  (s.queue.reports.filter fun r => r.body.isOverrun).length ≤ 1 ∧
  s.queue.reports.map Report.seq = numbersBefore s.queue.nextSeq s.queue.reports.length ∧
  s.queue.reports.Pairwise (fun older newer => newer.status = .sent → older.status = .sent) ∧
  s.queue.reports.Pairwise (fun older newer => newer.everSent = true → older.everSent = true) ∧
  (∀ r ∈ s.queue.reports, r.status = .sent → r.everSent = true) ∧
  (s.queue.sentCount ≠ 0 → s.node.state = .running ∧ s.queue.stalled = false) ∧
  s.queue.sentCount ≤ s.queue.window.toNat ∧
  (s.queue.ackTimer.isSome = true ↔ s.queue.sentCount ≠ 0) ∧
  (∀ k ∈ s.queue.ackTimer, k < s.queue.retryInterval.toNat) ∧
  s.queue.offerCount ≤ 8 ∧
  (s.queue.lost ≠ 0 → s.queue.overrun?.isSome = true) ∧
  queueSettingsFit s.queue

/-- Whether a report is a CONTACT report of contact `i`. -/
def Report.isContactOf (i : Fin 8) (r : Report) : Bool :=
  match r.body with
  | .contact j _ => j = i
  | .keyDown _ => false
  | .keyUp _ => false
  | .overrun _ => false
  | .commitDone => false
  | .effectEnd _ _ => false
  | .loopResumed _ => false

/-- Contact block (R120 to R125): the queued count is the number of the contact's reports in the queue; the held flag is
never set at a count of 0; WHILE_ACTIVE has at most one report; the agreement count does not exceed F; while the scanner is
stopped every contact is UNKNOWN with nothing sampled. -/
abbrev ContactInv (s : State) : Prop :=
  ∀ i, (s.contacts.get i).queued = (s.queue.reports.filter (Report.isContactOf i)).length ∧
    ((s.contacts.get i).held = true → (s.contacts.get i).queued ≠ 0) ∧
    ((s.contacts.get i).sense = .whileActive → (s.contacts.get i).queued ≤ 1) ∧
    ((s.contacts.get i).agree.toNat ≤ (s.contacts.get i).filter.toNat) ∧
    (s.scanner.enabled = false →
      (s.contacts.get i).filtered = .unknown ∧ (s.contacts.get i).agree = 0 ∧ (s.contacts.get i).lastRaw = false)

/-- Whether a key record's pass count stands where the debounce rules leave it, from 1 to D - 1 (R101, R108, R109). -/
def keyCountFits (D : Nat) : KeyState → Bool
  | .up => true
  | .pressPending n => 1 ≤ n && n < D
  | .down => true
  | .releasePending n => 1 ≤ n && n < D
  | .blocked => true

/-- Scanner (R99 to R103, R110, R115): at most four keys are held; a key outside the matrix stays UP; while stopped there
are no lines, no timer, no pass and every key is UP; while enabled the timer runs and the lines are those of the line map. -/
abbrev ScannerInv (s : State) : Prop :=
  heldCount s.scanner.keys ≤ 4 ∧
  (∀ k, inMatrix s.scanner.rowLines.length s.scanner.columnLines.length k = false → s.scanner.keys.get k = .up) ∧
  (∀ k, keyCountFits s.scanner.debounce.toNat (s.scanner.keys.get k) = true) ∧
  s.scanner.rowLines.length ≤ 8 ∧ s.scanner.columnLines.length ≤ 8 ∧
  1 ≤ s.scanner.interval.toNat ∧ s.scanner.interval.toNat ≤ 32 ∧
  1 ≤ s.scanner.debounce.toNat ∧ s.scanner.debounce.toNat ≤ 15 ∧
  (∀ p ∈ s.scanner.pass, p.column ≤ s.scanner.columnLines.length) ∧
  (s.scanner.passTimer.isSome = true ↔ s.scanner.enabled = true) ∧
  (s.scanner.enabled = false →
    s.scanner.rowLines = [] ∧ s.scanner.columnLines = [] ∧ s.scanner.pass = none) ∧
  (s.scanner.enabled = true →
    s.scanner.rowLines = (List.range (rowCount s.lines.entries)).filterMap (rowLine? s.lines.entries) ∧
    s.scanner.columnLines = (List.range (columnCount s.lines.entries)).filterMap (columnLine? s.lines.entries) ∧
    ∀ i, s.scanner.contactLines.get i = contactLine? s.lines.entries i)

/-- Whether a channel's mode fields stand in their ranges (R136, R137, R140 to R143). -/
def motionFits (e : Engine) : Motion → Bool
  | .steady => true
  | .gliding _ _ length elapsed => elapsed < length.toNat
  | .playing i position tick _ runs =>
    position < (e.effects.get i).count.val && tick < (e.segmentAt (e.effects.get i) position).length && runs ≠ some 0

/-- Indicator engine (R135 to R137): every record's range lies in the pool; a glide has ticks left; a playing channel stands
within a segment of a non-empty record, with a run left. -/
abbrev EngineInv (s : State) : Prop :=
  (∀ i, rangeFits (s.engine.effects.get i).first (s.engine.effects.get i).count = true) ∧
  (∀ c, motionFits s.engine (s.engine.channels.get c).motion = true)

/-- Management agent (R163, R172): the cache holds an entry of non-zero token, taken with OK or PENDING. -/
abbrev AgentInv (s : State) : Prop :=
  ∀ e ∈ s.agent.cache, e.token ≠ 0 ∧ (e.status = .ok ∨ e.status = .pending)

/-- All the invariants together. -/
abbrev Inv (s : State) : Prop :=
  SupplyInv s ∧ PortInv s ∧ FrameEventInv s ∧ NodeInv s ∧ MapInv s ∧ QueueInv s ∧ ContactInv s ∧ ScannerInv s ∧ EngineInv s ∧ AgentInv s

end Sys2Proof.Machine
end

