-- ==== Sys2Proof/WellFormed.lean ====
section
/-! DEFINITION. Which commands are well formed. Most operands are well formed by their types; what is left is that the
row UNKNOWN_REQUEST carries a code that is none of the 27 (R168). -/

namespace Sys2Proof

/-- A code that no known request has (R168). -/
def isUnknownCode (c : Byte) : Bool := Request.known.all fun r => r.code != c

/-- A command is well formed when a row for a request of unknown code carries such a code. -/
def Instr.wellFormed (i : Instr) : Bool :=
  match i.request? with
  | some (.unknown code) => isUnknownCode code
  | some _ => true
  | none => true

end Sys2Proof
end

