-- ==== Sys2Proof/Certificates/Slice0/Obligations.lean ====
section
/-! DEFINITION. The statements for the provers. Each docstring names the rules of spec/ a statement formalises; where it
rests on a choice of the model, it names the log entry. An equation `exec c s = .next t` is a frame as well: every field that
`t` does not name is that of `s`. -/

open Sys2Proof Sys2Proof.Machine

/-! ## The step and the queue of commands -/

/-- A step runs the command at the front of the queue with the queue's rest; an empty queue idles, which is the model's
choice (entry 2). -/
def Obligations.StepRunsTheFrontCommand : Prop :=
  (∀ (c : Instr) (rest : List Instr) (s : State), s.pending = c :: rest → step s = exec c { s with pending := rest }) ∧
  (∀ s : State, s.pending = [] → step s = .next s)

/-- Every command completes in every state, and leaves the commands that wait as they are. -/
def Obligations.EveryCommandCompletes : Prop :=
  ∀ (c : Instr) (s : State), ∃ t, exec c s = .next t ∧ t.pending = s.pending

/-! ## Supply and reset (R15, R16) -/

/-- The five commands of the supply and the RESET pin. POWER_ON_RESET and PIN_RESET set the whole node to its reset values, the model's
own fields and the level of the pin apart; RESET low holds the node in reset (R16). A short pulse is a pin reset or nothing: the open
choice is taken either way (entry 3). RESET_RELEASED begins the start-up of a node held in reset, START_UP_COMPLETE ends it with BYPASS
released, and POWER_LOSS leaves BYPASS and LOUT undriven (R15, R16; for what POWER_LOSS leaves of the state, entry 14). BYPASS is asserted
while the node is held in reset and while it is starting, so after POWER_ON_RESET, after a pin reset and after the release of a held node,
and released in operation (R15). Three clauses are the model's choice (entry 9): a pin reset of an unpowered node and RESET_RELEASED of a
node that is not held move the pin alone, and START_UP_COMPLETE outside start-up changes nothing. The reset values are those of each chapter's table (R37, R59, R86, R100, R119, R134, R135, R159, R191); the
phase, the levels shown, the contact lines, the flag of a due NODE RESET, the free index and the queue of commands are the model's
(entries 1, 5, 6, 4, 3 and 2). -/
def Obligations.SupplyAndResetPinCommands : Prop :=
  (
    State.reset =
      { phase := .starting, resetPinLow := false
        port := { link := .searching, badRun := 0, markTimer := 0, searchCount := 0, frame := .noFrame, loopOut := .idle }
        node :=
          { state := .unaddressed, position := none, epoch := none, silenceTimer := none, silenceTimeout := 20, outageTimer := 0,
            lastFallback := 0, startRefused := none, resetDue := false }
        map :=
          { active := Vector.replicate 48 .pass, staging := Vector.replicate 48 .pass,
            lastValues := Vector.replicate 48 none, commitPending := false }
        queue :=
          { reports := [], nextSeq := 0, lost := 0, stalled := false, ackTimer := none, offerCount := 0, currentCycle := 0,
            window := 8, retryInterval := 4, retryLimit := 3, offerLimit := 2 }
        lines := { entries := Vector.replicate 24 .unused, shown := Vector.replicate 16 0 }
        scanner :=
          { enabled := false, rowLines := [], columnLines := [], contactLines := Vector.replicate 8 none, passTimer := none,
            pass := none, keys := Vector.replicate 64 .up, interval := 5, debounce := 3 }
        contacts := Vector.replicate 8
          { sense := .off, filter := 2, filtered := .unknown, agree := 0, lastRaw := false, held := false, queued := 0 }
        engine :=
          { effects := Vector.replicate 32
              { first := 0, count := 0, repeatCount := 1, endAction := .hold 0, notify := false }
            segments := Vector.replicate 128 { target := 0, ramp := 0, hold := 0 }
            channels := Vector.replicate 16 { motion := .steady, level := 0, fallback := .keep 0 } }
        agent := { cache := none }, counters := Vector.replicate 10 0, freeIndex := 0, pending := [] }) ∧
  (
    ∀ s : State,
      exec .powerOnReset s = .next
        { State.reset with phase := if s.resetPinLow then .heldInReset else .starting, resetPinLow := s.resetPinLow,
                           freeIndex := s.freeIndex, pending := s.pending } ∧
      (s.phase ≠ .unpowered → exec (.pinReset .full) s = .next
        { State.reset with phase := .heldInReset, resetPinLow := true, freeIndex := s.freeIndex, pending := s.pending }) ∧
      (s.phase ≠ .unpowered →
        exec (.pinReset .short) s = .next { s with freeIndex := s.freeIndex + 1 } ∨
        exec (.pinReset .short) s = exec (.pinReset .full) { s with freeIndex := s.freeIndex + 1 }) ∧
      (s.phase = .unpowered →
        exec (.pinReset .full) s = .next { s with resetPinLow := true } ∧ exec (.pinReset .short) s = .next s)) ∧
  (
    (∀ s : State, s.phase = .heldInReset →
      exec .resetReleased s = .next { s with phase := .starting, resetPinLow := false }) ∧
    (∀ s : State, s.phase ≠ .heldInReset → exec .resetReleased s = .next { s with resetPinLow := false }) ∧
    (∀ s : State, s.phase = .starting →
      exec .startUpComplete s = .next { s with phase := .operating } ∧
      ({ s with phase := .operating } : State).bypass = .released) ∧
    (∀ s : State, s.phase ≠ .starting → exec .startUpComplete s = .next s) ∧
    (∀ s : State,
      exec .powerLoss s = .next
        { State.reset with phase := .unpowered, resetPinLow := s.resetPinLow, freeIndex := s.freeIndex,
                           pending := s.pending, port := { Port.reset with loopOut := .undriven } } ∧
      ∀ t, exec .powerLoss s = .next t → t.bypass = .undriven)) ∧
  (
    ∀ s : State,
      (s.bypass = .asserted ↔ s.phase = .heldInReset ∨ s.phase = .starting) ∧
      (s.bypass = .released ↔ s.phase = .operating) ∧ (s.bypass = .undriven ↔ s.phase = .unpowered) ∧
      (∀ t, exec .powerOnReset s = .next t → t.bypass = .asserted ∧ t.port.loopOut = .idle) ∧
      (∀ t, s.phase ≠ .unpowered → exec (.pinReset .full) s = .next t → t.bypass = .asserted ∧ t.port.loopOut = .idle) ∧
      (∀ t, s.phase = .heldInReset → exec .resetReleased s = .next t → t.bypass = .asserted))

/-- No command but those of the supply and the RESET pin changes what BYPASS drives, and none of the others acts while the
node is unpowered, held in reset or starting (R15, R16). -/
def Obligations.OnlySupplyMovesBypass : Prop :=
  ∀ (c : Instr) (s : State), isSupplyCommand c = false →
    (∀ t, exec c s = .next t → t.bypass = s.bypass) ∧ (s.phase ≠ .operating → exec c s = .next s)

/-! ## Loop port (chapter 1) -/

/-- START_MARK begins a frame record and restarts the mark timer, END_MARK closes the frame, and each first judges what it
ends early: a cut-short header as a bad header, a delivered frame cut short as one slot check error, and nothing else (R1, R5,
R12). -/
def Obligations.MarksBeginAndCloseFrames : Prop :=
  (∀ (tail : List Byte) (s : State), s.awake →
    exec (.startMark tail) s = .next
      { closeFrame s with
        port := { (closeFrame s).port with frame := .header, markTimer := 0, loopOut := .part (.startMark tail) } } ∧
    exec (.endMark tail) s = .next
      { closeFrame s with
        port := { (closeFrame s).port with frame := .noFrame, loopOut := .part (.endMark tail) } }) ∧
  (∀ s : State, s.port.frame = .noFrame → closeFrame s = s) ∧
  (∀ s : State, s.port.frame = .header → closeFrame s = { bump ctrHeaderErrors s with port := s.port.badHeader }) ∧
  (∀ (s : State) (count : Byte) (index : Nat) (k : FrameKind), s.port.frame = .slots count index (some k) →
    closeFrame s = if index < count.toNat then bump ctrSlotErrors s else s) ∧
  (∀ (s : State) (count : Byte) (index : Nat), s.port.frame = .slots count index none → closeFrame s = s)

/-- The link state: a bad header advances the run in LOCKED, the third in a row enters SEARCHING and is counted, and in
SEARCHING the run stays; the mark timer's expiry in LOCKED enters SEARCHING and abandons a delivered frame, and in SEARCHING
only rests; a timer that rests, expired, does not expire again before a start mark restarts it (R11, R12, R13). That an expiry taken before
a start mark that comes with it has all these effects, though R12 says that the two orders differ in the link state shown alone, is the
model's choice (entry 18). -/
def Obligations.LinkIsLostByThreeBadHeadersOrSilence : Prop :=
  (∀ p : Port, p.link = .searching → p.badHeader = p) ∧
  (∀ p : Port, p.link = .locked → p.badRun ≠ 2 → p.badHeader = { p with badRun := p.badRun + 1 }) ∧
  (∀ p : Port, p.link = .locked → p.badRun = 2 →
    p.badHeader = { p with link := .searching, badRun := 0, searchCount := satInc p.searchCount }) ∧
  (∀ s : State, 10 ≤ s.port.markTimer → exec .markTimerExpiry s = .next s) ∧
  (∀ s : State, s.phase = .operating → s.port.markTimer < 10 → s.port.link = .locked →
    exec .markTimerExpiry s = .next
      { s with
        port := { s.port with
          link := .searching, badRun := 0, searchCount := satInc s.port.searchCount, markTimer := 10
          frame := match s.port.frame with
            | .slots _ _ (some _) => .noFrame
            | .slots count index none => .slots count index none
            | .header => .header
            | .noFrame => .noFrame } }) ∧
  (∀ s : State, s.phase = .operating → s.port.markTimer < 10 → s.port.link = .searching →
    exec .markTimerExpiry s = .next { s with port := { s.port with markTimer := 10 } })

/-- A header of bad check or of slot count 0 or 49-255 is a bad header; a good one of unknown kind is counted, enters LOCKED
and is not delivered; either is sent on as it came and reaches no block (R2, R10, R11). -/
def Obligations.UndeliveredHeadersReachNoBlock : Prop :=
  ∀ (s : State) (h : HeaderBytes), s.awaitsHeader →
    (h.check ≠ headerCheck h ∨ h.slots.toNat = 0 ∨ 49 ≤ h.slots.toNat →
      exec (.headerArrival h) s = .next
        (({ bump ctrHeaderErrors s with port := s.port.badHeader } : State).headerSent h.slots none h)) ∧
    (deliverable h → h.kind ≠ 0x01 → h.kind ≠ 0x02 →
      exec (.headerArrival h) s = .next
        (({ bump ctrUnknownKinds s with port := { s.port with link := .locked, badRun := 0 } } : State).headerSent
          h.slots none h))

/-! ## Node controller (chapter 2) -/

/-- An ENUMERATE header of hop count 1-60 gives that position and the header's epoch, of 0 or 61-254 takes them away, both
emptying the token cache, leaving RUNNING or FALLBACK as R23 states, and sending the hop count plus 1 with a fresh check; of
255 it changes nothing beyond the port and the queue's header values (R9, R21, R22, R23). -/
def Obligations.EnumerationSetsPositionByHopCount : Prop :=
  ∀ (s : State) (h : HeaderBytes), s.awaitsHeader → deliverable h → h.kind = 0x02 →
    (1 ≤ h.hop.toNat → h.hop.toNat ≤ 60 →
      exec (.headerArrival h) s = .next
        (({ s.headerTaken h with
            node := { s.node.leave with state := .ready, position := some h.hop, epoch := some h.epoch }
            queue := queueOnLeaving s.node (s.headerTaken h).queue
            agent := { cache := none } } : State).headerSent h.slots (some .enumerate) (withHop h (h.hop + 1)))) ∧
    (h.hop.toNat = 0 ∨ (61 ≤ h.hop.toNat ∧ h.hop.toNat ≤ 254) →
      exec (.headerArrival h) s = .next
        (({ s.headerTaken h with
            node := { s.node.leave with state := .unaddressed, position := none, epoch := none }
            queue := queueOnLeaving s.node (s.headerTaken h).queue
            agent := { cache := none } } : State).headerSent h.slots (some .enumerate) (withHop h (h.hop + 1)))) ∧
    (h.hop.toNat = 255 →
      exec (.headerArrival h) s = .next ((s.headerTaken h).headerSent h.slots (some .enumerate) h))

/-- Leaving RUNNING stops the silence timer; leaving FALLBACK records the outage timer and stops it; the other states have
no timer to stop (R23). A NORMAL header finds an UNADDRESSED node unchanged, and one of another epoch takes an addressed node to
UNADDRESSED with a go-back, counter 3 and no frame event (R20, R23, R24). A go-back turns every SENT report WAITING, keeps all else of
it, and stops the ack timer (R79). -/
def Obligations.AnotherEpochTakesThePosition : Prop :=
  (∀ n : NodeCtl,
    (n.state = .running → n.leave = { n with silenceTimer := none }) ∧
    (n.state = .fallback →
      n.leave = { n with silenceTimer := none, lastFallback := n.outageTimer, outageTimer := 0 }) ∧
    (n.state = .ready ∨ n.state = .unaddressed → n.leave = n)) ∧
  (∀ q : Queue, q.goBack = { q with reports := q.reports.map Report.goBack, ackTimer := none }) ∧
  (∀ r : Report, r.goBack = { r with status := .waiting }) ∧
  ∀ (s : State) (h : HeaderBytes), s.awaitsHeader → deliverable h → h.kind = 0x01 →
    (s.node.state = .unaddressed →
      exec (.headerArrival h) s = .next ((s.headerTaken h).headerSent h.slots (some .normal) h)) ∧
    (s.node.state ≠ .unaddressed → s.node.epoch ≠ some h.epoch →
      exec (.headerArrival h) s = .next
        (({ bump ctrEpochMismatches (s.headerTaken h) with
            node := { s.node.leave with state := .unaddressed, position := none, epoch := none }
            queue := queueOnLeaving s.node (s.headerTaken h).queue } : State).headerSent h.slots (some .normal) h))

/-- A NORMAL header of the node's own epoch in READY or RUNNING restarts the silence timer in RUNNING and gives the frame
event to the slot map and the report queue (R20, R25); where a commit's notice and a timeout meet, either is taken first (R67;
entry 3). -/
def Obligations.OwnEpochHeaderGivesTheFrameEvent : Prop :=
  ∀ (s : State) (h : HeaderBytes), s.awaitsHeader → deliverable h → h.kind = 0x01 → s.node.epoch = some h.epoch →
    s.node.state = .ready ∨ s.node.state = .running →
    let u : State :=
      { s.headerTaken h with
        node := if s.node.state = .running then { s.node with silenceTimer := some 0 } else s.node }
    let taken : State := { u with freeIndex := u.freeIndex + 1 }
    (¬(s.map.commitPending = true ∧ timeoutDue s = true) →
      exec (.headerArrival h) s = .next ((queueFrameEvent (mapFrameEvent u)).headerSent h.slots (some .normal) h)) ∧
    (s.map.commitPending = true ∧ timeoutDue s = true →
      exec (.headerArrival h) s =
        .next ((queueFrameEvent (mapFrameEvent taken)).headerSent h.slots (some .normal) h) ∨
      exec (.headerArrival h) s =
        .next ((mapFrameEvent (queueFrameEvent taken)).headerSent h.slots (some .normal) h))

/-- SILENCE_TIMER_EXPIRY in RUNNING enters FALLBACK: counter 4, the outage timer at 1, a go-back, and every channel's fallback mode;
OUTAGE_TIMER_STEP in FALLBACK counts up to 255 (R26, R32, R150). The own-epoch NORMAL header that ends FALLBACK gives RUNNING with the silence
timer at 0, the outage recorded and its timer at 0, every last value none, a LOOP_RESUMED notice with the outage, and the frame event; where
a commit is pending the notice comes before or after it (R25, R26, R54; entry 3). No channel changes at the return. -/
def Obligations.FallbackIsEnteredAndLeft : Prop :=
  (
    (∀ s : State, s.phase = .operating → s.node.state = .running →
      exec .silenceTimerExpiry s = .next
        { bump ctrFallbackEntries s with
          node := { s.node with state := .fallback, silenceTimer := none, outageTimer := 1 }
          queue := { s.queue with reports := s.queue.reports.map Report.goBack, ackTimer := none }
          engine := { s.engine with
            channels := Vector.ofFn fun ch =>
              match (s.engine.channels.get ch).fallback with
              | .keep _ => s.engine.channels.get ch
              | .level v => { s.engine.channels.get ch with motion := .steady, level := v }
              | .effect i => s.engine.startEffect i 0 (s.engine.channels.get ch) } }) ∧
    (∀ s : State, s.phase = .operating → s.node.state = .fallback →
      exec .outageTimerStep s = .next
        { s with
          node := { s.node with
            outageTimer := if s.node.outageTimer = 255 then 255 else s.node.outageTimer + 1 } })) ∧
  (
    ∀ (s : State) (h : HeaderBytes), s.awaitsHeader → deliverable h → h.kind = 0x01 → s.node.epoch = some h.epoch →
      s.node.state = .fallback →
      let u : State :=
        { s.headerTaken h with
          node := { s.node with
            state := .running, silenceTimer := some 0, lastFallback := s.node.outageTimer, outageTimer := 0 }
          map := { s.map with lastValues := noLastValues } }
      let taken : State := { u with freeIndex := u.freeIndex + 1 }
      let notice := ReportBody.loopResumed s.node.outageTimer
      (s.map.commitPending = false →
        exec (.headerArrival h) s =
          .next ((queueFrameEvent (enqueueOnly notice u)).headerSent h.slots (some .normal) h)) ∧
      (s.map.commitPending = true →
        exec (.headerArrival h) s = .next ((frameEvent (enqueueOnly notice taken)).headerSent h.slots (some .normal) h) ∨
        exec (.headerArrival h) s = .next ((enqueueOnly notice (frameEvent taken)).headerSent h.slots (some .normal) h)))

/-! ## Slots and the slot map (chapters 1 and 3) -/

/-- What leaves as it came. Bytes: a slot of a frame that is not delivered is counted and repeated, ten bytes past the S-th slot, with no
frame or where a header is awaited are repeated, and so are six bytes given as a header where none is awaited; nothing is examined or
counted (R1, R5; for the last two, entry 9). Slots: one of bad check is counted in counter 1 and one of good check and unknown kind in counter 2, in either the
index advancing and nothing else changing (R4, R6). Uncounted pass: every slot of an ENUMERATE frame, VOID and MGMT_REPLY, DATA and CONTAINER
outside RUNNING or under another entry, ACKLIST in UNADDRESSED and FALLBACK, MGMT that is neither a broadcast nor addressed to the node, and every MGMT
slot in FALLBACK, broadcasts too (R21, R34, R41, R164). The entry of a slot is the active one of its index (R40). -/
def Obligations.SlotsNotForTheNodePassUnchanged : Prop :=
  (
    (∀ (s : State) (b : SlotBytes) (v : PinView) (count : Byte) (index : Nat),
      s.awake → s.port.frame = .slots count index none → index < count.toNat →
      exec (.slotArrival b v) s = .next
        { s with port := { s.port with loopOut := .part (.slot b), frame := .slots count (index + 1) none } }) ∧
    (∀ (s : State) (b : SlotBytes) (v : PinView) (count : Byte) (index : Nat) (kind : Option FrameKind),
      s.awake → s.port.frame = .slots count index kind → count.toNat ≤ index →
      exec (.slotArrival b v) s = .next { s with port := { s.port with loopOut := .part (.slot b) } }) ∧
    (∀ (s : State) (b : SlotBytes) (v : PinView), s.awake → s.port.frame = .noFrame ∨ s.port.frame = .header →
      exec (.slotArrival b v) s = .next { s with port := { s.port with loopOut := .part (.slot b) } }) ∧
    (∀ (s : State) (h : HeaderBytes), s.awake → s.port.frame ≠ .header →
      exec (.headerArrival h) s = .next { s with port := { s.port with loopOut := .part (.header h) } })) ∧
  (
    ∀ (s : State) (b : SlotBytes) (v : PinView) (kind : FrameKind) (count : Byte) (index : Nat),
      s.awaitsSlot kind count index →
      (¬goodSlot b →
        exec (.slotArrival b v) s = .next ((bump ctrSlotErrors s).slotSent kind count index b)) ∧
      (goodSlot b → 6 ≤ b.kind.toNat →
        exec (.slotArrival b v) s = .next ((bump ctrUnknownKinds s).slotSent kind count index b))) ∧
  (
    ∀ (s : State) (b : SlotBytes) (v : PinView) (kind : FrameKind) (count : Byte) (index : Nat),
      s.awaitsSlot kind count index → goodSlot b → b.kind.toNat ≤ 5 →
      (kind = .enumerate ∨ b.kind = 0x00 ∨ b.kind = 0x05 ∨
        (b.kind = 0x01 ∧ (s.node.state ≠ .running ∨ (activeEntry s index).isTake = false)) ∨
        (b.kind = 0x02 ∧ (s.node.state ≠ .running ∨ (activeEntry s index).isOffer = false)) ∨
        (b.kind = 0x03 ∧ (s.node.state = .unaddressed ∨ s.node.state = .fallback)) ∨
        (b.kind = 0x04 ∧ (s.node.state = .fallback ∨ (b.tag ≠ 0xFE ∧ s.node.position ≠ some b.tag)))) →
      exec (.slotArrival b v) s = .next (s.slotSent kind count index b)) ∧
  (
    ∀ (s : State) (i : Fin 48),
      activeEntry s i.val = s.map.active.get i ∧
      ((activeEntry s i.val).isTake = true ↔ ∃ t, s.map.active.get i = .take t) ∧
      ((activeEntry s i.val).isOffer = true ↔ s.map.active.get i = .offer))

/-- A TAKE in LEVEL mode: an unchanged value under change-only does nothing; any other is stored as the last value, and the
channel becomes STEADY at it, or, for width 2 with a glide length, GLIDING from its present level (R42, R43, R44, R147). The value
begins at payload byte `offset` (R42). -/
def Obligations.LevelTakeDrivesItsChannel : Prop :=
  (∀ p : Payload, (List.range 7).map (payloadByte p) = [p.p0, p.p1, p.p2, p.p3, p.p4, p.p5, p.p6]) ∧
  ∀ (s : State) (b : SlotBytes) (v : PinView) (count : Byte) (i : Fin 48) (t : TakeEntry),
    s.awaitsSlot .normal count i.val → goodSlot b → b.kind = 0x01 → s.node.state = .running →
    s.map.active.get i = .take t → t.mode = .level →
    let first := payloadByte b.payload t.offset.val
    let second := payloadByte b.payload (t.offset.val + 1)
    let value := if t.wide then TakeValue.two first second else TakeValue.one first
    let c := s.engine.channels.get t.channel
    (t.changeOnly = true ∧ s.map.lastValues.get i = some value →
      exec (.slotArrival b v) s = .next (s.slotSent .normal count i.val b)) ∧
    (¬(t.changeOnly = true ∧ s.map.lastValues.get i = some value) →
      exec (.slotArrival b v) s = .next
        (({ s with
            map := { s.map with lastValues := setAt s.map.lastValues i (some value) }
            engine := { s.engine with
              channels := setAt s.engine.channels t.channel
                (if t.wide = true ∧ second ≠ 0 then { c with motion := .gliding c.level first second 0 }
                 else { c with motion := .steady, level := first }) } } : State).slotSent .normal count i.val b))

/-- A TAKE in EFFECT mode: an unchanged value under change-only does nothing and is not counted; for any other the last value is stored; selector 0-31 starts that effect with the
second byte of width 2 as repeat override, 255 stops the channel, and 32-254 is counted in counter 7 and leaves the channel
(R43, R45, R46, R58, R142, R148). -/
def Obligations.EffectTakeStartsStopsOrCounts : Prop :=
  ∀ (s : State) (b : SlotBytes) (v : PinView) (count : Byte) (i : Fin 48) (t : TakeEntry),
    s.awaitsSlot .normal count i.val → goodSlot b → b.kind = 0x01 → s.node.state = .running →
    s.map.active.get i = .take t → t.mode = .effect →
    let first := payloadByte b.payload t.offset.val
    let second := payloadByte b.payload (t.offset.val + 1)
    let value := if t.wide then TakeValue.two first second else TakeValue.one first
    let c := s.engine.channels.get t.channel
    let stored : State := { s with map := { s.map with lastValues := setAt s.map.lastValues i (some value) } }
    let withChannel (c' : Channel) : State :=
      { stored with engine := { s.engine with channels := setAt s.engine.channels t.channel c' } }
    let unchanged := t.changeOnly = true ∧ s.map.lastValues.get i = some value
    (unchanged → exec (.slotArrival b v) s = .next (s.slotSent .normal count i.val b)) ∧
    (∀ e : Fin 32, ¬unchanged → first.toNat = e.val → (s.engine.effects.get e).count ≠ 0 →
      exec (.slotArrival b v) s = .next
        ((withChannel
          { c with
            motion := .playing e 0 0 c.level
              (if t.wide = true ∧ second ≠ 0 then some second
               else if (s.engine.effects.get e).repeatCount = 0 then none
               else some (s.engine.effects.get e).repeatCount)
            level := if (s.engine.segmentAt (s.engine.effects.get e) 0).ramp = 0
              then (s.engine.segmentAt (s.engine.effects.get e) 0).target else c.level }).slotSent
          .normal count i.val b)) ∧
    (∀ e : Fin 32, ¬unchanged → first.toNat = e.val → (s.engine.effects.get e).count = 0 →
      exec (.slotArrival b v) s = .next
        ((withChannel { c with motion := .steady }).slotSent .normal count i.val b)) ∧
    (¬unchanged → first.toNat = 255 →
      exec (.slotArrival b v) s = .next
        ((withChannel { c with motion := .steady }).slotSent .normal count i.val b)) ∧
    (¬unchanged → 32 ≤ first.toNat → first.toNat ≤ 254 →
      exec (.slotArrival b v) s = .next ((bump ctrBadTakes stored).slotSent .normal count i.val b))

/-- The two blocks' parts of a frame event. The slot map's: a pending commit copies the staging map as a whole, clears the last values
and hands the queue its notice; without one nothing changes (R53, R54). The queue's: the ack timer does not advance outside RUNNING or
with no report SENT, else it increments, and where it reaches Rt the oldest report is charged, the queue stalls above Lm and every SENT
report goes back (R76, R77). The frame event is both parts; where a commit and a timeout meet, either is first (R67; entry 3). The rows
COMMIT_CARRIED_OUT and TIMEOUT_GO_BACK act after an own-epoch header and before its frame's first slot; at any other moment, in FALLBACK
and between two slots too, a commit stays pending and nothing changes (R40, R53, R55, R56). That they stand beside HEADER_ARRIVAL so is
the model's choice (entries 8 and 15). -/
def Obligations.FrameEventParts : Prop :=
  (
    let committed (s : State) : State :=
      enqueueOnly .commitDone
        { s with
          map := { active := s.map.staging, staging := s.map.staging, lastValues := noLastValues, commitPending := false } }
    ∀ s : State,
      (s.map.commitPending = true → mapFrameEvent s = committed s) ∧
      (s.map.commitPending = false → mapFrameEvent s = s ∧ exec .commitCarriedOut s = .next s) ∧
      (∀ count : Byte, s.map.commitPending = true → s.phase = .operating → s.port.frame = .slots count 0 (some .normal) →
        s.node.state = .ready ∨ s.node.state = .running → exec .commitCarriedOut s = .next (committed s)) ∧
      (s.node.state = .unaddressed ∨ s.node.state = .fallback → exec .commitCarriedOut s = .next s) ∧
      ((∀ count : Byte, s.port.frame ≠ .slots count 0 (some .normal)) →
        exec .commitCarriedOut s = .next s ∧ exec .timeoutGoBack s = .next s)) ∧
  (
    ∀ s : State,
      let runs := s.node.state = .running ∧ 0 < s.queue.sentCount
      let reached := s.queue.retryInterval.toNat ≤ s.queue.ackTimer.getD 0 + 1
      (timeoutDue s = true ↔ runs ∧ reached) ∧
      (¬runs → queueFrameEvent s = s) ∧
      (runs → ¬reached →
        queueFrameEvent s = { s with queue := { s.queue with ackTimer := some (s.queue.ackTimer.getD 0 + 1) } }) ∧
      (∀ (r : Report) (rs : List Report), runs → reached → s.queue.reports = r :: rs →
        let retries := if r.retries = 7 then 7 else r.retries + 1
        let t : State :=
          { s with
            queue := { s.queue with
              reports := { r with retries := retries, status := .waiting } :: rs.map Report.goBack
              ackTimer := none
              stalled := s.queue.stalled || s.queue.retryLimit.toNat < retries.toNat } }
        queueFrameEvent s = t ∧
        (∀ count : Byte, s.phase = .operating → s.port.frame = .slots count 0 (some .normal) →
          s.queue.retryInterval.toNat ≤ s.queue.ackTimer.getD 0 → exec .timeoutGoBack s = .next t)) ∧
      (¬(runs ∧ s.queue.retryInterval.toNat ≤ s.queue.ackTimer.getD 0) → exec .timeoutGoBack s = .next s) ∧
      s.queue.sentCount = s.queue.reports.countP (fun r => r.status = .sent)) ∧
  (
    ∀ s : State,
      let taken : State := { s with freeIndex := s.freeIndex + 1 }
      (¬(s.map.commitPending = true ∧ timeoutDue s = true) → frameEvent s = queueFrameEvent (mapFrameEvent s)) ∧
      (s.map.commitPending = true ∧ timeoutDue s = true →
        frameEvent s = queueFrameEvent (mapFrameEvent taken) ∨ frameEvent s = mapFrameEvent (queueFrameEvent taken)))

/-! ## Report queue (chapter 4) -/

/-- An enqueue: appended at the tail with the next sequence number and the current cycle where fewer than 31 ordinary reports
are held, else discarded, counted twice, and followed by the overrun handling in its three cases (R61, R62, R64, R65). Every report but
an OVERRUN is an ordinary one (R60). -/
def Obligations.EnqueueAppendsOrCountsTheLoss : Prop :=
  (
    (∀ b : ReportBody, b.isOverrun = true ↔ ∃ n, b = .overrun n) ∧
    (∀ q : Queue, q.ordinaryCount = q.reports.countP (fun r => !r.body.isOverrun)) ∧
    (∀ (b : ReportBody) (s : State), enqueueOnly b s = (enqueue b s).1)) ∧
  ∀ (b : ReportBody) (s : State),
    (s.queue.ordinaryCount < 31 →
      enqueue b s =
        ({ s with
           queue := { s.queue with
             reports := s.queue.reports ++
               [{ seq := s.queue.nextSeq, body := b, cycle := s.queue.currentCycle, status := .waiting,
                  everSent := false, retries := 0 }]
             nextSeq := s.queue.nextSeq + 1 } }, true)) ∧
    (31 ≤ s.queue.ordinaryCount →
      let losses := if s.queue.lost = 255 then 255 else s.queue.lost + 1
      (s.queue.reports.all (fun r => !r.body.isOverrun) = true →
        enqueue b s =
          (bump ctrLostReports
            { s with
              queue := { s.queue with
                reports := s.queue.reports ++
                  [{ seq := s.queue.nextSeq, body := .overrun losses, cycle := s.queue.currentCycle,
                     status := .waiting, everSent := false, retries := 0 }]
                nextSeq := s.queue.nextSeq + 1
                lost := 0 } }, false)) ∧
      (∀ (older newer : List Report) (r : Report) (n : Byte),
        s.queue.reports = older ++ r :: newer → r.body = .overrun n →
        (older ++ newer).all (fun x => !x.body.isOverrun) = true →
        (r.status = .waiting →
          enqueue b s =
            (bump ctrLostReports
              { s with
                queue := { s.queue with
                  reports := older ++
                    { r with body := .overrun (if n.toNat + losses.toNat < 256 then n + losses else 255) } :: newer
                  lost := 0 } }, false)) ∧
        (r.status = .sent →
          enqueue b s =
            (bump ctrLostReports { s with queue := { s.queue with lost := losses } }, false))))

/-- A CONTAINER under OFFER: when it is free, the queue is not STALLED, the offer count, the window and a WAITING report allow
it, the oldest WAITING report is written into it with the node's position and becomes SENT and ever-sent; else it passes
unchanged (R68, R69, R71, R195). The kind code, source, value and extra bytes of each kind of report are those of R60's table and
10.4's codes. -/
def Obligations.OfferFillsAFreeContainer : Prop :=
  (
    let bytes (b : ReportBody) : List Byte := [b.kindCode, b.source, b.value, b.extra]
    (∀ k : Fin 64, bytes (.keyDown k) = [0x01, natByte k.val, 0, 0] ∧ bytes (.keyUp k) = [0x02, natByte k.val, 0, 0]) ∧
    (∀ (i : Fin 8) (active : Bool), bytes (.contact i active) = [0x03, natByte i.val, if active then 1 else 0, 0]) ∧
    (∀ lost : Byte, bytes (.overrun lost) = [0x04, 0, 0, lost]) ∧
    bytes .commitDone = [0x05, 0x01, 0, 0] ∧
    (∀ (e : Fin 32) (ch : Fin 16), bytes (.effectEnd e ch) = [0x05, 0x02, natByte e.val, natByte ch.val]) ∧
    (∀ outage : Byte, bytes (.loopResumed outage) = [0x05, 0x03, outage, 0])) ∧
  ∀ (s : State) (b : SlotBytes) (v : PinView) (count p : Byte) (i : Fin 48),
    s.awaitsSlot .normal count i.val → goodSlot b → b.kind = 0x02 → s.node.state = .running →
    s.node.position = some p → s.map.active.get i = .offer →
    (∀ (older newer : List Report) (r : Report),
      b.tag = 0xFF → s.queue.stalled = false → s.queue.offerCount < s.queue.offerLimit.toNat →
      s.queue.sentCount < s.queue.window.toNat → s.queue.reports = older ++ r :: newer →
      (∀ x ∈ older, x.status = .sent) → r.status = .waiting →
      exec (.slotArrival b v) s = .next
        (({ s with
            queue := { s.queue with
              reports := older ++ { r with status := .sent, everSent := true } :: newer
              offerCount := s.queue.offerCount + 1
              ackTimer := if s.queue.sentCount = 0 then some 0 else s.queue.ackTimer } } : State).slotSent
          .normal count i.val
          (makeSlot .container p
            { p0 := r.seq, p1 := r.body.kindCode, p2 := r.body.source, p3 := r.body.value, p4 := r.body.extra,
              p5 := r.cycle, p6 := if r.everSent then 1 else 0 }))) ∧
    (b.tag ≠ 0xFF ∨ s.queue.stalled = true ∨ s.queue.offerLimit.toNat ≤ s.queue.offerCount ∨
        s.queue.window.toNat ≤ s.queue.sentCount ∨ (∀ r ∈ s.queue.reports, r.status = .sent) →
      exec (.slotArrival b v) s = .next (s.slotSent .normal count i.val b))

/-- An ACKLIST in READY or RUNNING: its three pairs are taken in order, each whole; a pair of position 0 or of another node is passed over,
and one of this node's position is an acknowledgement; the slot passes as it came (R72, R194). An acknowledgement of `q` removes the ever-sent
report of that number and every older one, restarts or stops the ack timer, clears STALLED, appends an OVERRUN where one was removed and losses
are held, and hands the contact block the removals; one that names no ever-sent report is counted stray (R66, R73, R74). The removals
are handed on one by one, oldest first, one for each CONTACT report (R73, R126). That the follow-up comes before the re-arms is read from
R73's list (entry 11). -/
def Obligations.AcklistRemovesWhatItNames : Prop :=
  (
    (∀ (s : State) (b : SlotBytes) (v : PinView) (count : Byte) (index : Nat),
      s.awaitsSlot .normal count index → goodSlot b → b.kind = 0x03 →
      s.node.state = .ready ∨ s.node.state = .running →
      exec (.slotArrival b v) s = .next
        ((ackPair b.payload.p4 b.payload.p5
          (ackPair b.payload.p2 b.payload.p3 (ackPair b.payload.p0 b.payload.p1 s))).slotSent .normal count index b)) ∧
    (∀ (p q : Byte) (s : State), p = 0 ∨ s.node.position ≠ some p → ackPair p q s = s) ∧
    (∀ (p q : Byte) (s : State), p ≠ 0 → s.node.position = some p → ackPair p q s = acknowledge q s)) ∧
  (
    (∀ (q : Byte) (s : State) (older left : List Report) (r : Report),
      s.queue.reports = older ++ r :: left → r.seq = q → r.everSent = true →
      (∀ x ∈ older, ¬(x.seq = q ∧ x.everSent = true)) →
      let kept : Queue :=
        { s.queue with
          reports := left
          stalled := false
          ackTimer := if left.any (fun x => x.status = .sent) then some 0 else none }
      acknowledge q s = contactRemovals (older ++ [r])
        { s with
          queue :=
            if (older ++ [r]).any (fun x => x.body.isOverrun) = true ∧ s.queue.lost ≠ 0 then
              { kept with
                reports := left ++
                  [{ seq := s.queue.nextSeq, body := .overrun s.queue.lost, cycle := s.queue.currentCycle,
                     status := .waiting, everSent := false, retries := 0 }]
                nextSeq := s.queue.nextSeq + 1
                lost := 0 }
            else kept }) ∧
    (∀ (q : Byte) (s : State), (∀ x ∈ s.queue.reports, ¬(x.seq = q ∧ x.everSent = true)) →
      acknowledge q s = bump ctrStrayAcks s)) ∧
  (
    ∀ (r : Report) (rs : List Report) (s : State),
      contactRemovals [] s = s ∧
      (∀ (i : Fin 8) (active : Bool), r.body = .contact i active →
        contactRemovals (r :: rs) s = contactRemovals rs (contactRemoval i s)) ∧
      ((∀ (i : Fin 8) (active : Bool), r.body ≠ .contact i active) → contactRemovals (r :: rs) s = contactRemovals rs s))

/-- One removal of a CONTACT report: the queued count falls, the held flag clears at 0, and an ACTIVE contact of sense
WHILE_ACTIVE is re-armed by a CONTACT report of value 1, which sets the flag and the count again where it is appended (R125, R126). That
the flag stays while later reports of a contact changed from WHILE_ACTIVE are queued is the model's choice (entry 17). -/
def Obligations.RemovalRearmsAnActiveContact : Prop :=
  ∀ (i : Fin 8) (s : State) (n : Nat), (s.contacts.get i).queued = n + 1 →
    let c := s.contacts.get i
    let lowered : Contact := { c with queued := n, held := c.held && n ≠ 0 }
    (¬(c.sense = .whileActive ∧ c.filtered = .active ∧ n = 0) →
      contactRemoval i s = { s with contacts := setAt s.contacts i lowered }) ∧
    (c.sense = .whileActive → c.filtered = .active → n = 0 → s.queue.ordinaryCount < 31 →
      contactRemoval i s =
        { s with
          contacts := setAt s.contacts i { c with queued := 1, held := true }
          queue := { s.queue with
            reports := s.queue.reports ++
              [{ seq := s.queue.nextSeq, body := .contact i true, cycle := s.queue.currentCycle, status := .waiting,
                 everSent := false, retries := 0 }]
            nextSeq := s.queue.nextSeq + 1 } }) ∧
    (c.sense = .whileActive → c.filtered = .active → n = 0 → 31 ≤ s.queue.ordinaryCount →
      contactRemoval i s = (enqueue (.contact i true) { s with contacts := setAt s.contacts i lowered }).1)

/-! ## Line map, scanner and contacts (chapters 5 to 7) -/

/-- PULSE_WIDTH_PERIOD takes every channel's level for the period; an INDICATOR line is in its active sense for the first L steps,
and each function drives its pin as the tables give (R89, R90, R91, R92). A pin is sensed high or low by what it does: a driven pin at what
the node drives, a pulled pin at its pull unless the board holds it, a high-impedance pin at the board's level (R89, R90, R95; what the
board does is the view the command brings, which is the model's choice, entry 10). -/
def Obligations.PinsFollowTheirEntries : Prop :=
  (∀ s : State, s.phase = .operating →
    exec .pulseWidthPeriod s = .next
      { s with lines := { s.lines with shown := Vector.ofFn fun ch => (s.engine.channels.get ch).level } }) ∧
  ∀ (s : State) (l : Line) (step : Fin 255),
    (s.lines.entries.get l = .unused → pinDrive s l step = .highZ) ∧
    (∀ r, s.lines.entries.get l = .row r → pinDrive s l step = .pullUp) ∧
    (∀ r, s.lines.entries.get l = .column r → s.scanner.pass = none → pinDrive s l step = .highZ) ∧
    (∀ (r : Fin 8) (p : Pass), s.lines.entries.get l = .column r → s.scanner.pass = some p →
      pinDrive s l step = if s.scanner.columnLines[p.column]? = some l then .low else .highZ) ∧
    (∀ i q, (s.lines.entries.get l = .contact i .none q → pinDrive s l step = .highZ) ∧
      (s.lines.entries.get l = .contact i .up q → pinDrive s l step = .pullUp) ∧
      (s.lines.entries.get l = .contact i .down q → pinDrive s l step = .pullDown)) ∧
    (∀ (c : Fin 16), let active := step.val < (s.lines.shown.get c).toNat
      (s.lines.entries.get l = .indicator c .pushPull .activeHigh →
        pinDrive s l step = if active then .high else .low) ∧
      (s.lines.entries.get l = .indicator c .pushPull .activeLow →
        pinDrive s l step = if active then .low else .high) ∧
      (s.lines.entries.get l = .indicator c .sinkOnly .activeLow →
        pinDrive s l step = if active then .low else .highZ) ∧
      (s.lines.entries.get l = .indicator c .sinkOnly .activeHigh →
        pinDrive s l step = if active then .highZ else .low) ∧
      (s.lines.entries.get l = .indicator c .sourceOnly .activeHigh →
        pinDrive s l step = if active then .high else .highZ) ∧
      (s.lines.entries.get l = .indicator c .sourceOnly .activeLow →
        pinDrive s l step = if active then .highZ else .high)) ∧
    (∀ v : PinView, v.pwmStep = step →
      let boardHolds := v.held.getLsbD l.val
      let boardLevel := v.level.getLsbD l.val
      (pinDrive s l step = .high → sensedHigh s l v = true) ∧
      (pinDrive s l step = .low → sensedHigh s l v = false) ∧
      (pinDrive s l step = .pullUp → sensedHigh s l v = if boardHolds then boardLevel else true) ∧
      (pinDrive s l step = .pullDown → sensedHigh s l v = if boardHolds then boardLevel else false) ∧
      (pinDrive s l step = .highZ → sensedHigh s l v = boardLevel))

/-- PASS_START begins the reading at column 0 and restarts the pass timer; COLUMN_SETTLED takes the readings of its column, key
code r × 8 + c closed exactly where row r's line is sensed low, keeps the other readings and goes on to the next column (R101,
R105, R106). -/
def Obligations.PassReadsColumnByColumn : Prop :=
  (∀ s : State, s.phase = .operating → s.scanner.enabled = true → s.scanner.pass = none →
    exec .passStart s = .next
      { s with scanner := { s.scanner with passTimer := some 0, pass := some { column := 0, closed := 0 } } }) ∧
  (∀ (s : State) (v : PinView) (p : Pass), s.phase = .operating → s.scanner.pass = some p →
    p.column < s.scanner.columnLines.length → s.scanner.columnLines.length ≤ 8 → s.scanner.rowLines.length ≤ 8 →
    ∃ closed : BitVec 64,
      exec (.columnSettled v) s = .next
        { s with scanner := { s.scanner with pass := some { column := p.column + 1, closed := closed } } } ∧
      ∀ k : Fin 64, closed.getLsbD k.val = (p.closed.getLsbD k.val ||
        (keyColumn k = p.column &&
          match s.scanner.rowLines[keyRow k]? with
          | some l => !sensedHigh s l v
          | none => false)))

/-- The debounce table: what one evaluation makes of a key from its state, its reading and D, with acceptance of a key that is not
ambiguous where fewer than four are held, and no report but KEY_DOWN on acceptance and KEY_UP on release (R108, R109, R110, R111). A key is
held in DOWN and RELEASE_PENDING, and the held count, which SCAN GET shows, is the number of such keys (R116); a key is ambiguous exactly
when some other key of its row and some other key of its column are held (R101, R110). -/
def Obligations.DebounceFollowsItsTable : Prop :=
  (
    ∀ (keys : KeyTable) (k : Fin 64),
      let held (j : Fin 64) : Prop := keys.get j = .down ∨ ∃ n, keys.get j = .releasePending n
      (ambiguous keys k = true ↔
        (∃ j, j ≠ k ∧ j.val / 8 = k.val / 8 ∧ held j) ∧ (∃ j, j ≠ k ∧ j.val % 8 = k.val % 8 ∧ held j)) ∧
      heldCount keys = (List.finRange 64).countP (fun j =>
        match keys.get j with
        | .down => true
        | .releasePending _ => true
        | .up => false
        | .pressPending _ => false
        | .blocked => false) ∧
      (heldCount keys < 4 ↔ ∀ js : List (Fin 64), js.Nodup → (∀ j ∈ js, held j) → js.length < 4)) ∧
  ∀ (D : Nat) (k : Fin 64) (e : Evaluation),
    let put (x : KeyState) : Evaluation := { e with keys := setAt e.keys k x }
    let judged : Evaluation :=
      if heldCount e.keys < 4 ∧ ambiguous e.keys k = false then
        { keys := setAt e.keys k .down, reports := e.reports ++ [.keyDown k] }
      else put .blocked
    let released : Evaluation := { keys := setAt e.keys k .up, reports := e.reports ++ [.keyUp k] }
    (e.keys.get k = .up →
      evaluateKey D false k e = e ∧
      evaluateKey D true k e = if D ≤ 1 then judged else put (.pressPending 1)) ∧
    (∀ n, e.keys.get k = .pressPending n →
      evaluateKey D false k e = put .up ∧
      evaluateKey D true k e = if D ≤ n + 1 then judged else put (.pressPending (n + 1))) ∧
    (e.keys.get k = .down →
      evaluateKey D true k e = e ∧
      evaluateKey D false k e = if D ≤ 1 then released else put (.releasePending 1)) ∧
    (∀ n, e.keys.get k = .releasePending n →
      evaluateKey D true k e = put .down ∧
      evaluateKey D false k e = if D ≤ n + 1 then released else put (.releasePending (n + 1))) ∧
    (e.keys.get k = .blocked →
      evaluateKey D false k e = put .up ∧ evaluateKey D true k e = judged)

/-- The contact filter: the first sample is taken as it is, a differing one only after F others, an agreeing one starts the count
again (R122, R123); and the report a contact makes of it, by its sense (R124, R125). -/
def Obligations.ContactFilterAndSense : Prop :=
  ∀ (c : Contact) (raw : Bool) (i : Fin 8),
    let now := if raw then Filtered.active else Filtered.inactive
    (c.filtered = .unknown → c.sampled raw = { c with filtered := now, agree := 0, lastRaw := raw }) ∧
    (c.filtered = now → c.sampled raw = { c with agree := 0, lastRaw := raw }) ∧
    (c.filtered ≠ .unknown → c.filtered ≠ now → c.agree.toNat < c.filter.toNat →
      c.sampled raw = { c with agree := c.agree + 1, lastRaw := raw }) ∧
    (c.filtered ≠ .unknown → c.filtered ≠ now → c.filter.toNat ≤ c.agree.toNat →
      c.sampled raw = { c with filtered := now, agree := 0, lastRaw := raw }) ∧
    (∀ d : Contact, d.sense = c.sense → d.filtered ≠ .unknown →
      let changed := c.filtered ≠ .unknown ∧ c.filtered ≠ d.filtered
      (c.sense = .off → contactReport? i c d = none) ∧
      (c.sense = .onActivate →
        contactReport? i c d = if changed ∧ d.filtered = .active then some (.contact i true false) else none) ∧
      (c.sense = .onRelease →
        contactReport? i c d = if changed ∧ d.filtered = .inactive then some (.contact i false false) else none) ∧
      (c.sense = .onBoth →
        contactReport? i c d = if changed then some (.contact i (d.filtered = .active) false) else none) ∧
      (c.sense = .whileActive →
        contactReport? i c d =
          if d.filtered = .active ∧ d.held = false ∧ d.queued = 0 then some (.contact i true true) else none))

/-- PASS_COMPLETION: the keys are evaluated from the pass's readings and the contacts from their samples, the pass is over, and the key
reports and the contact reports reach the queue each in their own order, in one of the merges the manual leaves open (R107, R113, R121, R124;
entry 3). Every key of the matrix is evaluated once, in ascending key code, each from its own reading and from what the keys before it
were made (R107, R112); the key reports are in strictly ascending key code, and each tells the state its key is left in (R113). A contact's raw
sample is the sensed level of its line by its polarity, ACTIVE for high under ACTIVE_HIGH and for low under ACTIVE_LOW, and INACTIVE for a
contact without a line (R90, R121; for the level, entry 10). The queue takes a key's report as an enqueue, and a contact's as one that, where
it is appended, raises the contact's queued count and, for the level report of WHILE_ACTIVE alone, sets its held flag, and where it is
discarded leaves the contacts (R113, R124, R125). -/
def Obligations.PassCompletionHandsOverItsReports : Prop :=
  (
    ∀ (s : State) (v : PinView) (p : Pass), s.phase = .operating → s.scanner.pass = some p →
      s.scanner.columnLines.length ≤ p.column →
      ∃ (reports : List PassReport) (choices : Nat),
        let e := evaluateKeys s.scanner p.closed
        let sampled : Vector Contact 8 := Vector.ofFn fun i => (s.contacts.get i).sampled (rawSample v s i)
        (reports.filterMap fun r => match r with | .key b => some b | .contact _ _ _ => none) = e.reports ∧
        (reports.filter fun r => match r with | .key _ => false | .contact _ _ _ => true) =
          (List.finRange 8).filterMap (fun i => contactReport? i (s.contacts.get i) (sampled.get i)) ∧
        exec (.passCompletion v) s = .next (reports.foldl takePassReport
          { s with
            scanner := { s.scanner with keys := e.keys, pass := none }
            contacts := sampled
            freeIndex := s.freeIndex + choices })) ∧
  (
    ∀ (sc : Scanner) (closed : BitVec 64),
      let e := evaluateKeys sc closed
      e.reports.Pairwise (fun earlier later => earlier.source.toNat < later.source.toNat) ∧
      ∀ b ∈ e.reports,
        (∃ k, b = .keyDown k ∧ e.keys.get k = .down) ∨ (∃ k, b = .keyUp k ∧ e.keys.get k = .up)) ∧
  (
    ∀ (sc : Scanner) (closed : BitVec 64),
      ∃ before : Nat → Evaluation,
        before 0 = { keys := sc.keys, reports := [] } ∧
        (∀ k : Fin 64,
          before (k.val + 1) =
            if k.val / 8 < sc.rowLines.length ∧ k.val % 8 < sc.columnLines.length then
              evaluateKey sc.debounce.toNat (closed.getLsbD k.val) k (before k.val)
            else before k.val) ∧
        evaluateKeys sc closed = before 64) ∧
  (
    ∀ (s : State) (v : PinView) (i : Fin 8),
      (s.scanner.contactLines.get i = none → rawSample v s i = false) ∧
      (∀ l : Line, s.scanner.contactLines.get i = some (l, .activeHigh) → rawSample v s i = sensedHigh s l v) ∧
      (∀ l : Line, s.scanner.contactLines.get i = some (l, .activeLow) → rawSample v s i = !sensedHigh s l v)) ∧
  (
    ∀ s : State,
      (∀ b : ReportBody, takePassReport s (.key b) = (enqueue b s).1) ∧
      (∀ (i : Fin 8) (active level : Bool),
        let c := s.contacts.get i
        (s.queue.ordinaryCount < 31 →
          takePassReport s (.contact i active level) =
            { (enqueue (.contact i active) s).1 with
              contacts := setAt s.contacts i
                { c with queued := c.queued + 1, held := if level then true else c.held } }) ∧
        (31 ≤ s.queue.ordinaryCount →
          takePassReport s (.contact i active level) = (enqueue (.contact i active) s).1)))

/-! ## Indicator engine (chapter 8) -/

/-- The ramp arithmetic: at tick k of n the level is the start plus the change (t - s) × k / n truncated toward zero, and at
k = n the target (R139). -/
def Obligations.RampIsTruncatedTowardItsStart : Prop :=
  ∀ (start target : Byte) (k n : Nat), 1 ≤ n → k ≤ n →
    ((rampLevel start target k n).toNat : Int) =
      (start.toNat : Int) + Int.tdiv (((target.toNat : Int) - (start.toNat : Int)) * (k : Int)) (n : Int) ∧
    rampLevel start target n n = target ∧ rampLevel start start k n = start

/-- One channel advanced by a tick: STEADY stands, a glide moves or ends, a playing channel follows its segment, and at a segment's
end the next begins, or the run ends with a restart or the end action and its notice (R138, R140 to R145). The segment at a position of a
record is the pool's of index first plus position (R135), and a start on a record begins its first segment from the channel's level,
or leaves the channel STEADY at it where the record is empty (R142, R144, R146). -/
def Obligations.ChannelAdvancesByItsMode : Prop :=
  (
    ∀ (e : Engine) (r : EffectRecord) (position : Nat), rangeFits r.first r.count = true → position < r.count.val →
      ∃ j : Fin 128, j.val = r.first.val + position ∧ e.segmentAt r position = e.segments.get j) ∧
  (
    ∀ (e : Engine) (c : Channel) (i : Fin 32) (override : Byte),
      let r := e.effects.get i
      e.startEffect i override c =
        if r.count = 0 then { c with motion := .steady }
        else
          { c with
            motion := .playing i 0 0 c.level
              (if override ≠ 0 then some override else if r.repeatCount = 0 then none else some r.repeatCount)
            level := if (e.segmentAt r 0).ramp = 0 then (e.segmentAt r 0).target else c.level }) ∧
  ∀ (e : Engine) (c : Channel),
    (c.motion = .steady → e.advance c = (c, none)) ∧
    (∀ start target length elapsed, c.motion = .gliding start target length elapsed →
      e.advance c =
        if elapsed + 1 < length.toNat then
          ({ c with motion := .gliding start target length (elapsed + 1),
                    level := rampLevel start target (elapsed + 1) length.toNat }, none)
        else ({ c with motion := .steady, level := target }, none)) ∧
    (∀ i position tick segStart runs, c.motion = .playing i position tick segStart runs →
      let r := e.effects.get i
      let g := e.segmentAt r position
      let level := if tick + 1 ≤ g.ramp.toNat then rampLevel segStart g.target (tick + 1) g.ramp.toNat else g.target
      let shown : Channel := { c with motion := .playing i position (tick + 1) segStart runs, level := level }
      let begin (at_ : Nat) (left : Option Byte) : Channel :=
        { c with
          motion := .playing i at_ 0 level left
          level := if (e.segmentAt r at_).ramp = 0 then (e.segmentAt r at_).target else level }
      (tick + 1 < max 1 (g.ramp.toNat + g.hold.toNat) → e.advance c = (shown, none)) ∧
      (max 1 (g.ramp.toNat + g.hold.toNat) ≤ tick + 1 → position + 1 < r.count.val →
        e.advance c = (begin (position + 1) runs, none)) ∧
      (max 1 (g.ramp.toNat + g.hold.toNat) ≤ tick + 1 → r.count.val ≤ position + 1 →
        (runs = none → e.advance c = (begin 0 none, none)) ∧
        (∀ n, runs = some n → 2 ≤ n.toNat → e.advance c = (begin 0 (some (n - 1)), none)) ∧
        (∀ n, runs = some n → n.toNat ≤ 1 →
          (∀ v, r.endAction = .hold v →
            e.advance c = ({ c with motion := .steady, level := level }, if r.notify then some i else none)) ∧
          (∀ v, r.endAction = .level v →
            e.advance c = ({ c with motion := .steady, level := v }, if r.notify then some i else none)) ∧
          (∀ j, r.endAction = .chain j →
            e.advance c = (e.startEffect j 0 shown, if r.notify then some i else none)))))

/-- INDICATOR_TICK advances every channel once, none by another, leaves the effect memory, and hands the queue the notices of effects that
ended one after the other in ascending channel index, each appended or discarded as the queue stands then (R64); nothing but the engine, the queue and counter 6 changes (R138, R145). GLIDE_END and SEGMENT_END are a tick's
advance of one channel whose glide or segment it ends: the glide's channel becomes STEADY at its target, and the segment's advances as
ChannelAdvancesByItsMode says, with the notice it may make (R140, R141, R145). That these rows stand for that advance is the model's choice
(entry 8). -/
def Obligations.TicksAdvanceTheChannels : Prop :=
  (
    ∀ s : State, s.phase = .operating →
      ∃ t, exec .indicatorTick s = .next t ∧
        t = { s with engine := t.engine, queue := t.queue, counters := t.counters } ∧
        t.engine.effects = s.engine.effects ∧ t.engine.segments = s.engine.segments ∧
        (∀ ch, t.engine.channels.get ch = (s.engine.advance (s.engine.channels.get ch)).1) ∧
        (let notices := (List.finRange 16).filterMap fun ch =>
            (s.engine.advance (s.engine.channels.get ch)).2.map fun i => ReportBody.effectEnd i ch
         let told := notices.foldl (fun u b => (enqueue b u).1) s
         t.queue = told.queue ∧ t.counters = told.counters) ∧
        (∀ n : Fin 10, n ≠ ctrLostReports → t.counters.get n = s.counters.get n) ∧
        (s.queue.ordinaryCount ≤ 15 →
          t.counters = s.counters ∧
          t.queue.reports.map Report.body = s.queue.reports.map Report.body ++
            (List.finRange 16).filterMap fun ch =>
              (s.engine.advance (s.engine.channels.get ch)).2.map fun i => .effectEnd i ch)) ∧
  (
    (∀ (s : State) (ch : Fin 16) (start target length : Byte) (elapsed : Nat), s.phase = .operating →
      (s.engine.channels.get ch).motion = .gliding start target length elapsed → length.toNat ≤ elapsed + 1 →
      exec (.glideEnd ch) s = .next
        { s with
          engine := { s.engine with
            channels := setAt s.engine.channels ch
              { s.engine.channels.get ch with motion := .steady, level := target } } }) ∧
    (∀ (s : State) (ch : Fin 16) (i : Fin 32) (position tick : Nat) (segStart : Byte) (runs : Option Byte),
      s.phase = .operating → (s.engine.channels.get ch).motion = .playing i position tick segStart runs →
      (s.engine.segmentAt (s.engine.effects.get i) position).length ≤ tick + 1 →
      let a := s.engine.advance (s.engine.channels.get ch)
      let moved : State := { s with engine := { s.engine with channels := setAt s.engine.channels ch a.1 } }
      exec (.segmentEnd ch) s = .next
        (match a.2 with
          | none => moved
          | some i => (enqueue (.effectEnd i ch) moved).1)))

/-- A glide of n ticks shows the ramp's levels tick by tick and stands STEADY at its target after the n-th tick, whatever the other
channels do (R139, R140). The tick is what INDICATOR_TICK does in operation (R138). -/
def Obligations.GlideReachesItsTargetOnTime : Prop :=
  (∀ s : State, s.phase = .operating → exec .indicatorTick s = .next (tickChannels s)) ∧
  ∀ (s : State) (ch : Fin 16) (start target length : Byte),
    (s.engine.channels.get ch).motion = .gliding start target length 0 →
    (∀ k, 1 ≤ k → k < length.toNat →
      ((tickChannels^[k] s).engine.channels.get ch) =
        { s.engine.channels.get ch with
          motion := .gliding start target length k, level := rampLevel start target k length.toNat }) ∧
    (∀ k, length.toNat ≤ k → 1 ≤ k →
      ((tickChannels^[k] s).engine.channels.get ch) =
        { s.engine.channels.get ch with motion := .steady, level := target })

/-! ## Management requests (chapter 9) -/

/-- A request's row is the arrival of the MGMT slot that carries it, bit for bit (R163, R164, R194; that the row is this
slot's arrival is the model's choice, entry 8). The slot of a request and of its reply byte by byte, with the check over bytes 0-8, and
the codes of requests and statuses (R166, R194, R197, 10.4). -/
def Obligations.RequestRowIsItsSlot : Prop :=
  (
    (∀ (tag token code : Byte) (a : Args),
      let p : Payload := { p0 := token, p1 := code, p2 := a.a0, p3 := a.a1, p4 := a.a2, p5 := a.a3, p6 := a.a4 }
      requestSlot tag token code a = { kind := 0x04, tag := tag, payload := p, check := slotCheck 0x04 tag p }) ∧
    (∀ (tag token : Byte) (st : Status) (d : ReplyData),
      let p : Payload := { p0 := token, p1 := st.code, p2 := d.d0, p3 := d.d1, p4 := d.d2, p5 := d.d3, p6 := d.d4 }
      replySlot tag token st d = { kind := 0x05, tag := tag, payload := p, check := slotCheck 0x05 tag p }) ∧
    [Status.ok, .pending, .busy, .wrongState, .badIndex, .badValue, .inUse, .invalidConfig, .unknownRequest].map Status.code =
      [0x00, 0x01, 0x10, 0x11, 0x12, 0x13, 0x14, 0x15, 0x16] ∧
    [StartReason.duplicateLine, .gap, .halfMatrix].map StartReason.code = [0x01, 0x02, 0x03] ∧
    [Request.info, .status, .counter, .nodeReset, .blockReset, .loopSet, .loopGet, .start, .stop, .mapWrite, .mapRead,
        .mapCommit, .resync, .flush, .lineWrite, .lineRead, .scanSet, .scanGet, .keysRead, .contactsRead, .effectWrite,
        .effectRead, .segmentWrite, .segmentRead, .channelSet, .channelGet, .channelDrive].map Request.code =
      [0x01, 0x02, 0x03, 0x04, 0x05, 0x06, 0x07, 0x08, 0x09, 0x10, 0x11, 0x12, 0x18, 0x19, 0x20, 0x21, 0x28, 0x29, 0x2A,
        0x2B, 0x30, 0x31, 0x32, 0x33, 0x38, 0x39, 0x3A]) ∧
  ∀ (r : Request) (tag token : Byte) (a : Args) (v : PinView) (s : State),
    (requestRow r tag token a v).wellFormed = true →
    exec (requestRow r tag token a v) s = exec (.slotArrival (requestSlot tag token r.code a) v) s

/-- What is answered or passed without being executed. A request that matches the token cache gets the cached reply again; a broadcast other
than START, STOP and NODE RESET, a request to another node and every request of an ENUMERATE frame pass as they came (R21, R164, R173, R176).
A refused request is answered with its status, counted in counter 8 and changes nothing else, and the cache keeps its entry (R166, R167, R172). -/
def Obligations.RequestsThatAreNotExecuted : Prop :=
  (
    ∀ (r : Request) (tag token : Byte) (a : Args) (v : PinView) (s : State) (kind : FrameKind) (count : Byte) (index : Nat),
      (∀ e : CacheEntry, s.serves tag count index → s.agent.cache = some e → token ≠ 0 → e.token = token →
        e.code = r.code → e.args = a →
        exec (requestRow r tag token a v) s = .next
          (s.slotSent .normal count index (replySlot tag token e.status e.data))) ∧
      (s.awaitsSlot .normal count index → tag = 0xFE → r.code ≠ 0x04 → r.code ≠ 0x08 → r.code ≠ 0x09 →
        exec (requestRow r tag token a v) s = .next
          (s.slotSent .normal count index (requestSlot tag token r.code a))) ∧
      (s.awaitsSlot kind count index → (kind = .enumerate ∨ (tag ≠ 0xFE ∧ s.node.position ≠ some tag)) →
        exec (requestRow r tag token a v) s = .next
          (s.slotSent kind count index (requestSlot tag token r.code a)))) ∧
  (
    ∀ (r : Request) (tag token : Byte) (a : Args) (v : PinView) (s : State) (count : Byte) (index : Nat) (st : Status)
      (d : ReplyData),
      s.serves tag count index → s.fresh token r.code a → (requestRow r tag token a v).wellFormed = true → serve r v a s = .refused st d →
      exec (requestRow r tag token a v) s = .next (s.refusal count index tag token st d))

/-- The first three checks: UNKNOWN_REQUEST for a code that is none of the 27, WRONG_STATE at the gates of R169, BAD_INDEX for an
index out of range (R167, R168, R169, R170). -/
def Obligations.ChecksOfCodeStateAndIndex : Prop :=
  ∀ (tag token : Byte) (a : Args) (v : PinView) (s : State) (count : Byte) (index : Nat), s.serves tag count index →
    (∀ code : Byte, isUnknownCode code = true ↔ code ∉ Request.known.map Request.code) ∧
    (∀ code : Byte, isUnknownCode code = true → s.fresh token code a →
      exec (.unknownRequest tag token code a) s = .next (s.refusal count index tag token .unknownRequest noData)) ∧
    (∀ r : Request, s.fresh token r.code a →
      (r = .start ∧ s.node.state = .running) ∨ (r = .stop ∧ s.node.state = .ready) ∨
        (r = .loopSet ∧ s.node.state = .running) ∨
        (r = .lineWrite ∧ (s.node.state = .running ∨ s.scanner.enabled = true)) →
      exec (requestRow r tag token a v) s = .next (s.refusal count index tag token .wrongState noData)) ∧
    (∀ r : Request, s.fresh token r.code a →
      (r = .counter ∧ 10 ≤ a.a0.toNat) ∨ ((r = .mapWrite ∨ r = .mapRead) ∧ 48 ≤ a.a0.toNat) ∨
        (r = .lineRead ∧ 24 ≤ a.a0.toNat) ∨
        (r = .lineWrite ∧ s.node.state = .ready ∧ s.scanner.enabled = false ∧ 24 ≤ a.a0.toNat) ∨
        ((r = .scanSet ∨ r = .scanGet) ∧ a.a0 = 1 ∧ 8 ≤ a.a1.toNat) ∨ (r = .keysRead ∧ 8 ≤ a.a0.toNat) ∨
        ((r = .effectWrite ∨ r = .effectRead) ∧ 32 ≤ a.a0.toNat) ∨
        ((r = .segmentWrite ∨ r = .segmentRead) ∧ 128 ≤ a.a0.toNat) ∨
        ((r = .channelSet ∨ r = .channelGet ∨ r = .channelDrive) ∧ 16 ≤ a.a0.toNat) →
      exec (requestRow r tag token a v) s = .next (s.refusal count index tag token .badIndex noData))

/-- The resource checks, each after every value check: BUSY, IN_USE and INVALID_CONFIG, the last with the failing entry or the
reason and line (R166, R171). Line map validation, which START makes: DUPLICATE_LINE with the lowest line whose function and index a
lower-numbered line holds, else GAP with the lowest ROW or COLUMN line of an index of R or C or more, else HALF_MATRIX with the lowest ROW
or COLUMN line where the other function has none, else it passes (R96, R97, R98). -/
def Obligations.ChecksOfResources : Prop :=
  (
    ∀ t : LineTable,
      let isRow (l : Line) : Prop := ∃ i, t.get l = .row i
      let isColumn (l : Line) : Prop := ∃ i, t.get l = .column i
      let repeats (l : Line) : Prop := ∃ m < l,
        (∃ i, t.get m = .row i ∧ t.get l = .row i) ∨ (∃ i, t.get m = .column i ∧ t.get l = .column i) ∨
          (∃ i p q p' q', t.get m = .contact i p q ∧ t.get l = .contact i p' q')
      let gap (l : Line) : Prop :=
        (∃ i : Fin 8, t.get l = .row i ∧ rowCount t ≤ i.val) ∨ (∃ i : Fin 8, t.get l = .column i ∧ columnCount t ≤ i.val)
      let lowest (p : Line → Prop) (l : Line) : Prop := p l ∧ ∀ m < l, ¬p m
      rowCount t = (List.finRange 24).countP (fun l => (t.get l).function = 0x01) ∧
      columnCount t = (List.finRange 24).countP (fun l => (t.get l).function = 0x02) ∧
      (∀ l, validate t = some (.duplicateLine, l) ↔ lowest repeats l) ∧
      (∀ l, validate t = some (.gap, l) ↔ (∀ m, ¬repeats m) ∧ lowest gap l) ∧
      (∀ l, validate t = some (.halfMatrix, l) ↔ (∀ m, ¬repeats m) ∧ (∀ m, ¬gap m) ∧
        ((0 < rowCount t ∧ columnCount t = 0 ∧ lowest isRow l) ∨ (rowCount t = 0 ∧ 0 < columnCount t ∧ lowest isColumn l))) ∧
      (validate t = none ↔ (∀ m, ¬repeats m) ∧ (∀ m, ¬gap m) ∧ (rowCount t = 0 ↔ columnCount t = 0))) ∧
  ∀ (tag token : Byte) (a : Args) (s : State) (count : Byte) (index : Nat), s.serves tag count index →
    (s.fresh token 0x10 a → s.map.commitPending = true → a.a0.toNat < 48 → (mapEntryOf a.a1 a.a2 a.a3).isSome = true →
      exec (.mapWrite tag token a) s = .next (s.refusal count index tag token .busy noData)) ∧
    (s.fresh token 0x12 a → s.map.commitPending = true →
      exec (.mapCommit tag token a) s = .next (s.refusal count index tag token .busy noData)) ∧
    (∀ i : Fin 48, s.fresh token 0x12 a → s.map.commitPending = false → (s.map.staging.get i).fits = false →
      (∀ j < i, (s.map.staging.get j).fits = true) →
      exec (.mapCommit tag token a) s = .next
        (s.refusal count index tag token .invalidConfig { noData with d0 := natByte i.val })) ∧
    (∀ (reason : StartReason) (line : Line), s.fresh token 0x08 a → s.node.state = .ready → s.scanner.enabled = false →
      validate s.lines.entries = some (reason, line) →
      exec (.start tag token a) s = .next
        (s.refusal count index tag token .invalidConfig { noData with d0 := reason.code, d1 := natByte line.val })) ∧
    (s.fresh token 0x28 a → s.scanner.enabled = true → a.a0 = 0 → 1 ≤ a.a1.toNat → a.a1.toNat ≤ 32 → 1 ≤ a.a2.toNat →
      a.a2.toNat ≤ 15 →
      exec (.scanSet tag token a) s = .next (s.refusal count index tag token .busy noData)) ∧
    (∀ i : Fin 8, s.fresh token 0x28 a → a.a0 = 1 → a.a1.toNat = i.val → a.a2.toNat ≤ 4 → a.a3.toNat ≤ 15 →
      (s.scanner.enabled = true ∨ (a.a2 = 4 ∧ 2 ≤ (s.contacts.get i).queued)) →
      exec (.scanSet tag token a) s = .next (s.refusal count index tag token .busy noData)) ∧
    (∀ i : Fin 32, s.fresh token 0x30 a → a.a0.toNat = i.val → (effectRecordOf a.a1 a.a2 a.a3 a.a4).isSome = true →
      s.engine.inPlay i = true →
      exec (.effectWrite tag token a) s = .next (s.refusal count index tag token .inUse noData)) ∧
    (∀ j : Fin 128, s.fresh token 0x32 a → a.a0.toNat = j.val → s.engine.segmentInUse j = true →
      exec (.segmentWrite tag token a) s = .next (s.refusal count index tag token .inUse noData))

/-- Every entry and record that the tables can hold is read back from the bytes it is shown in: slot map entries, line entries and
effect records; and bytes give none of them exactly where a field that the form holds is out of its range (R49, R94, R152, R196, R197). The bytes
themselves are those of 10.5's layouts and 10.4's codes; bits 7 and 6 of E0 are ignored, and E1 and E2 of PASS and OFFER. The fields that a
line's function does not hold, the index and options of NONE and the options of ROW and COLUMN, are neither examined nor stored (R94). -/
def Obligations.PackedEntriesReadBack : Prop :=
  (∀ e : MapEntry, mapEntryOf e.e0 e.e1 e.e2 = some e) ∧
  (∀ e : LineEntry, lineEntryOf e.function e.index e.option e.polarity = some e) ∧
  (∀ r : EffectRecord, rangeFits r.first r.count = true →
    effectRecordOf (natByte r.first.val) r.f1 r.repeatCount r.endAction.value = some r) ∧
  (∀ t : TakeEntry,
    [(MapEntry.take t).e0, (MapEntry.take t).e1, (MapEntry.take t).e2] =
      [natByte (1 + 4 * (if t.mode = .effect then 1 else 0) + 16 * (if t.changeOnly then 1 else 0)),
       natByte (16 * t.offset.val + if t.wide then 2 else 1), natByte t.channel.val]) ∧
  ([MapEntry.pass, .offer].map fun e => [e.e0, e.e1, e.e2]) = [[0, 0, 0], [2, 0, 0]] ∧
  (∀ e0 e1 e2 : Byte, (e0.toNat % 4 = 0 → mapEntryOf e0 e1 e2 = some .pass) ∧
    (e0.toNat % 4 = 2 → mapEntryOf e0 e1 e2 = some .offer) ∧ mapEntryOf e0 e1 e2 = mapEntryOf (e0 &&& 0x3F) e1 e2) ∧
  (∀ r : EffectRecord, r.f1 =
    natByte (r.count.val + 16 * r.endAction.code.toNat + 64 * (if r.notify then 1 else 0))) ∧
  (∀ (i : Fin 8) (ch : Fin 16) (p : Pull) (d : Drive) (q : Polarity),
    [LineEntry.unused.function, (LineEntry.row i).function, (LineEntry.column i).function, (LineEntry.contact i p q).function,
      (LineEntry.indicator ch d q).function] = [0, 1, 2, 3, 4] ∧
    [LineEntry.unused.index, (LineEntry.row i).index, (LineEntry.column i).index, (LineEntry.contact i p q).index,
      (LineEntry.indicator ch d q).index] = [0, natByte i.val, natByte i.val, natByte i.val, natByte ch.val] ∧
    [LineEntry.unused.option, (LineEntry.row i).option, (LineEntry.column i).option, (LineEntry.contact i p q).option,
      (LineEntry.indicator ch d q).option] = [0, 0, 0, p.code, d.code] ∧
    [LineEntry.unused.polarity, (LineEntry.row i).polarity, (LineEntry.column i).polarity, (LineEntry.contact i p q).polarity,
      (LineEntry.indicator ch d q).polarity] = [0, 0, 0, q.code, q.code]) ∧
  ([Pull.none, .up, .down].map Pull.code = [0, 1, 2] ∧ [Drive.pushPull, .sinkOnly, .sourceOnly].map Drive.code = [0, 1, 2] ∧
    [Polarity.activeHigh, .activeLow].map Polarity.code = [0, 1] ∧
    [Sense.off, .onActivate, .onRelease, .onBoth, .whileActive].map Sense.code = [0, 1, 2, 3, 4] ∧
    [Filtered.unknown, .inactive, .active].map Filtered.code = [0, 1, 2] ∧
    (∀ (v : Byte) (i : Fin 32),
      [EndAction.hold v, .level v, .chain i].map EndAction.code = [0, 1, 2] ∧
      [EndAction.hold v, .level v, .chain i].map EndAction.value = [v, v, natByte i.val] ∧
      [FallbackMode.keep v, .level v, .effect i].map FallbackMode.code = [0, 1, 2] ∧
      [FallbackMode.keep v, .level v, .effect i].map FallbackMode.value = [v, v, natByte i.val])) ∧
  (∀ e0 e1 e2 : Byte, mapEntryOf e0 e1 e2 = none ↔
    e0.toNat % 4 = 3 ∨
    (e0.toNat % 4 = 1 ∧
      (7 ≤ e1.toNat / 16 ∨ (e1.toNat % 16 ≠ 1 ∧ e1.toNat % 16 ≠ 2) ∨ 16 ≤ e2.toNat ∨ 2 ≤ e0.toNat / 4 % 4 ∨
        2 ≤ e0.toNat / 16 % 4))) ∧
  (∀ function index option polarity : Byte, lineEntryOf function index option polarity = none ↔
    5 ≤ function.toNat ∨
    (1 ≤ function.toNat ∧ function.toNat ≤ 3 ∧ 8 ≤ index.toNat) ∨
    (function = 4 ∧ 16 ≤ index.toNat) ∨
    ((function = 3 ∨ function = 4) ∧ (3 ≤ option.toNat ∨ 2 ≤ polarity.toNat))) ∧
  (∀ index option polarity : Byte,
    lineEntryOf 0 index option polarity = some .unused ∧
    lineEntryOf 1 index option polarity = lineEntryOf 1 index 0 0 ∧
    lineEntryOf 2 index option polarity = lineEntryOf 2 index 0 0) ∧
  (∀ f0 f1 f2 f3 : Byte, effectRecordOf f0 f1 f2 f3 = none ↔
    128 ≤ f0.toNat ∨ 9 ≤ f1.toNat % 16 ∨ 3 ≤ f1.toNat / 16 % 4 ∨ (f1.toNat / 16 % 4 = 2 ∧ 32 ≤ f3.toNat) ∨
    2 ≤ f1.toNat / 64 ∨ (f1.toNat % 16 ≠ 0 ∧ 128 < f0.toNat + f1.toNat % 16))

/-- INFO: page 0 gives vendor, part, revision and 24 lines, page 1 the capacities; a page above 1 is refused with BAD_VALUE
(R178). -/
def Obligations.InfoGivesTheCapacities : Prop :=
  ∀ (tag token : Byte) (a : Args) (s : State) (count : Byte) (index : Nat),
    s.serves tag count index → s.fresh token 0x01 a →
    (a.a0.toNat = 0 →
      exec (.info tag token a) s = .next
        (s.replied count index tag token 0x01 a .ok { d0 := 0x6B, d1 := 0x0C, d2 := 0x18, d3 := 0x01, d4 := 24 })) ∧
    (a.a0.toNat = 1 →
      exec (.info tag token a) s = .next
        (s.replied count index tag token 0x01 a .ok { d0 := 48, d1 := 32, d2 := 16, d3 := 32, d4 := 128 })) ∧
    (2 ≤ a.a0.toNat → exec (.info tag token a) s = .next (s.refusal count index tag token .badValue noData))

/-- STATUS: page 0 with the node state, five flags, position, epoch and the start-refused reason and line; page 1 with the queue;
page 2 with the last fallback duration and the search count; a page above 2 is refused with BAD_VALUE (R84, R179, R180). -/
def Obligations.StatusShowsThreePages : Prop :=
  ∀ (tag token : Byte) (a : Args) (s : State) (count : Byte) (index : Nat),
    s.serves tag count index → s.fresh token 0x02 a →
    (a.a0.toNat = 0 →
      exec (.status tag token a) s = .next
        (s.replied count index tag token 0x02 a .ok
          { d0 := (if s.node.state = .ready then 1 else 2) + (if s.port.link = .locked then 4 else 0)
              + (if s.map.commitPending = true then 8 else 0) + (if s.scanner.enabled = true then 16 else 0)
              + (if s.queue.stalled = true then 32 else 0) + (if s.node.startRefused ≠ none then 64 else 0)
            d1 := tag
            d2 := s.node.epoch.getD 0
            d3 := match s.node.startRefused with
              | none => 0
              | some (reason, _) => reason.code
            d4 := match s.node.startRefused with
              | none => 0
              | some (_, line) => natByte line.val })) ∧
    (a.a0.toNat = 1 →
      exec (.status tag token a) s = .next
        (s.replied count index tag token 0x02 a .ok
          { d0 := natByte s.queue.reports.length, d1 := natByte s.queue.sentCount, d2 := s.queue.nextSeq,
            d3 := s.queue.lost, d4 := 0 })) ∧
    (a.a0.toNat = 2 →
      exec (.status tag token a) s = .next
        (s.replied count index tag token 0x02 a .ok
          { d0 := s.node.lastFallback, d1 := s.port.searchCount, d2 := 0, d3 := 0, d4 := 0 })) ∧
    (3 ≤ a.a0.toNat → exec (.status tag token a) s = .next (s.refusal count index tag token .badValue noData))

/-- A count raises its counter by one, leaves it at 65535, and leaves the other counters and all else (00_scope.md, "Counters"; R14, R36,
R58, R85, R183). COUNTER: the counter's value, most significant byte first, taken before a clear sets it to 0; a clear flag other than 0 or 1 is
refused with BAD_VALUE (R182, R197). -/
def Obligations.CounterIsReadThenCleared : Prop :=
  (
    ∀ (n : Fin 10) (s : State), ∃ counted : Vector Count 10,
      bump n s = { s with counters := counted } ∧
      (counted.get n).toNat = min 65535 ((s.counters.get n).toNat + 1) ∧
      ∀ m : Fin 10, m ≠ n → counted.get m = s.counters.get m) ∧
  ([ctrHeaderErrors, ctrSlotErrors, ctrUnknownKinds, ctrEpochMismatches, ctrFallbackEntries, ctrStrayAcks, ctrLostReports,
    ctrBadTakes, ctrRefused, ctrGoodFrames] : List (Fin 10)) = [0, 1, 2, 3, 4, 5, 6, 7, 8, 9] ∧
  ∀ (tag token : Byte) (a : Args) (s : State) (count : Byte) (index : Nat) (n : Fin 10),
    s.serves tag count index → s.fresh token 0x03 a → a.a0.toNat = n.val →
    let value := (s.counters.get n).toNat
    (a.a1.toNat ≤ 1 →
      exec (.counter tag token a) s = .next
        (({ s with counters := if a.a1 = 1 then setAt s.counters n 0 else s.counters } : State).replied
          count index tag token 0x03 a .ok
          { d0 := a.a0, d1 := BitVec.ofNat 8 (value / 256), d2 := BitVec.ofNat 8 (value % 256), d3 := a.a1, d4 := 0 })) ∧
    (2 ≤ a.a1.toNat → exec (.counter tag token a) s = .next (s.refusal count index tag token .badValue noData))

/-- NODE RESET is answered OK, or taken as a broadcast without an answer, and takes place once its slot has been sent on: every block
at its values, the port's link, run, mark timer and frame record kept, the current cycle kept, and before any further part is
judged (R17, R37, R59, R86, R100, R119, R134, R159, R184, R186, R191). That the shown levels of the running pulse-width period are
kept is read by inference (entry 5), and so is the part that settles it (entry 4). -/
def Obligations.NodeResetFollowsItsSlot : Prop :=
  (∀ (tag token : Byte) (a : Args) (s : State) (count : Byte) (index : Nat),
    s.serves tag count index → s.fresh token 0x04 a →
    exec (.nodeReset tag token a) s = .next
      (({ s with node := { s.node with resetDue := true } } : State).replied count index tag token 0x04 a .ok noData)) ∧
  (∀ (token : Byte) (a : Args) (s : State) (count : Byte) (index : Nat),
    s.awaitsSlot .normal count index → s.node.state ≠ .fallback →
    exec (.nodeReset 0xFE token a) s = .next
      (({ s with node := { s.node with resetDue := true } } : State).slotSent .normal count index
        (requestSlot 0xFE token 0x04 a))) ∧
  (∀ s : State, s.phase = .operating → s.node.resetDue = true →
    let t : State :=
      { State.reset with
        phase := s.phase, resetPinLow := s.resetPinLow, freeIndex := s.freeIndex, pending := s.pending
        port := { s.port with searchCount := 0 }
        lines := { LineMap.reset with shown := s.lines.shown }
        queue := { Queue.reset with currentCycle := s.queue.currentCycle } }
    exec .nodeResetTakesPlace s = .next t ∧
    (∀ tail, exec (.startMark tail) s = exec (.startMark tail) t ∧ exec (.endMark tail) s = exec (.endMark tail) t) ∧
    (∀ h, exec (.headerArrival h) s = exec (.headerArrival h) t) ∧
    (∀ b v, exec (.slotArrival b v) s = exec (.slotArrival b v) t))

/-- BLOCK RESET of a set of the five blocks resets exactly those, CHANNELS before EFFECTS, and is answered OK with the set; an empty
set, or one with a bit outside the five, is refused with BAD_VALUE (R57, R86, R103, R127, R129, R134, R160, R161, R187, R188). That SCANNER
clears a held flag where it finds the scanner stopped is the model's choice (entry 16). -/
def Obligations.BlockResetResetsTheNamedBlocks : Prop :=
  ∀ (tag token : Byte) (a : Args) (s : State) (count : Byte) (index : Nat),
    s.serves tag count index → s.fresh token 0x05 a →
    (a.a0 = 0 ∨ 32 ≤ a.a0.toNat →
      exec (.blockReset tag token a) s = .next (s.refusal count index tag token .badValue noData)) ∧
    (1 ≤ a.a0.toNat → a.a0.toNat < 32 →
      let scanner := a.a0.getLsbD 0
      let queue := a.a0.getLsbD 1
      let channels := a.a0.getLsbD 2
      let slotMap := a.a0.getLsbD 3
      let effects := a.a0.getLsbD 4
      exec (.blockReset tag token a) s = .next
        (({ s with
            scanner := if scanner then
                { Scanner.reset with interval := s.scanner.interval, debounce := s.scanner.debounce }
              else s.scanner
            contacts := Vector.ofFn fun i =>
              let c := s.contacts.get i
              { c with
                filtered := if scanner then .unknown else c.filtered
                agree := if scanner then 0 else c.agree
                lastRaw := if scanner then false else c.lastRaw
                held := if scanner || queue then false else c.held
                queued := if queue then 0 else c.queued }
            queue := if queue then
                { s.queue with
                  reports := [], nextSeq := 0, lost := 0, stalled := false, ackTimer := none }
              else s.queue
            map := if slotMap then SlotMap.reset else s.map
            engine :=
              { effects := if effects then Vector.replicate 32 EffectRecord.reset else s.engine.effects
                segments := if effects then Vector.replicate 128 Segment.reset else s.engine.segments
                channels := Vector.ofFn fun ch =>
                  let c := s.engine.channels.get ch
                  if channels then { c with motion := .steady, level := 0 }
                  else if effects = true ∧ c.motion.code = 2 then { c with motion := .steady }
                  else c } } : State).replied count index tag token 0x05 a .ok { noData with d0 := a.a0 }))

/-- LOOP SET in READY writes its five settings at once and answers with them; one field out of range refuses it with BAD_VALUE
(R83, R189). -/
def Obligations.LoopSetWritesFiveSettings : Prop :=
  ∀ (tag token : Byte) (a : Args) (s : State) (count : Byte) (index : Nat),
    s.serves tag count index → s.fresh token 0x06 a → s.node.state = .ready →
    let fits := 2 ≤ a.a0.toNat ∧ a.a0.toNat ≤ 250 ∧ 1 ≤ a.a1.toNat ∧ a.a1.toNat ≤ 8 ∧ 2 ≤ a.a2.toNat ∧
      a.a2.toNat ≤ 31 ∧ a.a3.toNat ≤ 7 ∧ 1 ≤ a.a4.toNat ∧ a.a4.toNat ≤ 8
    (fits →
      exec (.loopSet tag token a) s = .next
        (({ s with
            node := { s.node with silenceTimeout := a.a0 }
            queue := { s.queue with
              window := a.a1, retryInterval := a.a2, retryLimit := a.a3, offerLimit := a.a4 } } : State).replied
          count index tag token 0x06 a .ok { d0 := a.a0, d1 := a.a1, d2 := a.a2, d3 := a.a3, d4 := a.a4 })) ∧
    (¬fits → exec (.loopSet tag token a) s = .next (s.refusal count index tag token .badValue noData))

/-- LOOP GET answers OK with the five settings as they stand and changes nothing, whatever its arguments, in READY and in
RUNNING (R190). -/
def Obligations.LoopGetShowsFiveSettings : Prop :=
  ∀ (tag token : Byte) (a : Args) (s : State) (count : Byte) (index : Nat),
    s.serves tag count index → s.fresh token 0x07 a →
    exec (.loopGet tag token a) s = .next
      (s.replied count index tag token 0x07 a .ok
        { d0 := s.node.silenceTimeout, d1 := s.queue.window, d2 := s.queue.retryInterval, d3 := s.queue.retryLimit,
          d4 := s.queue.offerLimit })

/-- An addressed START in READY that passes enters RUNNING, starts the silence timer, clears the last values and the start-refused flag,
enables a stopped scanner from the line map and leaves an enabled one; an addressed STOP in RUNNING turns every SENT report back, stops the
scanner and the contacts with their settings, counts and held flags kept, stops the silence timer and enters READY; either answers with the
oldest sequence number and the queue length (R23, R27, R28, R30, R102, R103, R129). A line map that validation passes hands over R and C, the
line of each row and column index and the line and polarity of each contact index, and no other (R99). -/
def Obligations.StartAndStop : Prop :=
  (
    ∀ t : LineTable, validate t = none →
      let rows := (List.range (rowCount t)).filterMap (rowLine? t)
      let columns := (List.range (columnCount t)).filterMap (columnLine? t)
      rows.length = rowCount t ∧ columns.length = columnCount t ∧
      (∀ (i : Fin 8) (l : Line), (rowLine? t i.val = some l ↔ t.get l = .row i) ∧ (rows[i.val]? = some l ↔ t.get l = .row i)) ∧
      (∀ (i : Fin 8) (l : Line),
        (columnLine? t i.val = some l ↔ t.get l = .column i) ∧ (columns[i.val]? = some l ↔ t.get l = .column i)) ∧
      (∀ (i : Fin 8) (l : Line) (q : Polarity), contactLine? t i = some (l, q) ↔ ∃ p, t.get l = .contact i p q)) ∧
  (
    ∀ (tag token : Byte) (a : Args) (s : State) (count : Byte) (index : Nat),
      s.serves tag count index → s.fresh token 0x08 a → s.node.state = .ready →
      s.scanner.enabled = true ∨ validate s.lines.entries = none →
      exec (.start tag token a) s = .next
        (({ s with
            node := { s.node with state := .running, silenceTimer := some 0, startRefused := none }
            map := { s.map with lastValues := noLastValues }
            scanner := if s.scanner.enabled then s.scanner else
              { s.scanner with
                enabled := true
                rowLines := (List.range (rowCount s.lines.entries)).filterMap (rowLine? s.lines.entries)
                columnLines := (List.range (columnCount s.lines.entries)).filterMap (columnLine? s.lines.entries)
                contactLines := Vector.ofFn (contactLine? s.lines.entries)
                passTimer := some 0
                pass := none
                keys := Vector.replicate 64 .up } } : State).replied count index tag token 0x08 a .ok
          { noData with
            d0 := match s.queue.reports with
              | [] => s.queue.nextSeq
              | r :: _ => r.seq
            d1 := natByte s.queue.reports.length })) ∧
  (
    ∀ (tag token : Byte) (a : Args) (s : State) (count : Byte) (index : Nat),
      s.serves tag count index → s.fresh token 0x09 a → s.node.state = .running →
      exec (.stop tag token a) s = .next
        (({ s with
            node := { s.node with state := .ready, silenceTimer := none }
            queue := { s.queue with reports := s.queue.reports.map Report.goBack, ackTimer := none }
            scanner := { Scanner.reset with interval := s.scanner.interval, debounce := s.scanner.debounce }
            contacts := Vector.ofFn fun i =>
              { s.contacts.get i with filtered := .unknown, agree := 0, lastRaw := false } } : State).replied
          count index tag token 0x09 a .ok
          { noData with
            d0 := match s.queue.reports with
              | [] => s.queue.nextSeq
              | r :: _ => r.seq
            d1 := natByte s.queue.reports.length }))

/-- Broadcast START and STOP do what the addressed ones do, without a reply and without the cache: a START that fails in READY sets
the start-refused flag and counts; a START outside READY and a STOP outside RUNNING are ignored (R29, R30, R176, R177). -/
def Obligations.BroadcastStartAndStop : Prop :=
  ∀ (token : Byte) (a : Args) (s : State) (count : Byte) (index : Nat), s.awaitsSlot .normal count index →
    let onStart (t : State) := t.slotSent .normal count index (requestSlot 0xFE token 0x08 a)
    let onStop (t : State) := t.slotSent .normal count index (requestSlot 0xFE token 0x09 a)
    (s.node.state ≠ .ready → exec (.start 0xFE token a) s = .next (onStart s)) ∧
    (∀ (reason : StartReason) (line : Line), s.node.state = .ready → s.scanner.enabled = false →
      validate s.lines.entries = some (reason, line) →
      exec (.start 0xFE token a) s = .next
        (onStart { bump ctrRefused s with node := { s.node with startRefused := some (reason, line) } })) ∧
    (s.node.state = .ready → s.scanner.enabled = true ∨ validate s.lines.entries = none →
      exec (.start 0xFE token a) s = .next
        (onStart
          { s with
            node := { s.node with state := .running, silenceTimer := some 0, startRefused := none }
            map := { s.map with lastValues := noLastValues }
            scanner := if s.scanner.enabled then s.scanner else
              { s.scanner with
                enabled := true
                rowLines := (List.range (rowCount s.lines.entries)).filterMap (rowLine? s.lines.entries)
                columnLines := (List.range (columnCount s.lines.entries)).filterMap (columnLine? s.lines.entries)
                contactLines := Vector.ofFn (contactLine? s.lines.entries)
                passTimer := some 0
                pass := none
                keys := Vector.replicate 64 .up } })) ∧
    (s.node.state ≠ .running → exec (.stop 0xFE token a) s = .next (onStop s)) ∧
    (s.node.state = .running →
      exec (.stop 0xFE token a) s = .next
        (onStop
          { s with
            node := { s.node with state := .ready, silenceTimer := none }
            queue := { s.queue with reports := s.queue.reports.map Report.goBack, ackTimer := none }
            scanner := { Scanner.reset with interval := s.scanner.interval, debounce := s.scanner.debounce }
            contacts := Vector.ofFn fun i =>
              { s.contacts.get i with filtered := .unknown, agree := 0, lastRaw := false } }))

/-- MAP WRITE replaces one staging entry and echoes it, MAP READ shows an entry and, for a TAKE of the active map, its last value, and
MAP COMMIT of a map in which every entry fits is answered PENDING with the counts of TAKE and OFFER and sets commit-pending (R49, R50,
R51, R52). A MAP WRITE of action 3, or of a TAKE with an offset above 6, a width other than 1 and 2, a channel above 15, a mode or a
change-only out of range, and a MAP READ of a selector above 1, are refused with BAD_VALUE, a commit pending or not (R49, R50, R196). An
entry fits unless it is a TAKE whose offset plus width is above 7 (R38, R51). -/
def Obligations.MapRequestsLoadAndCommit : Prop :=
  (∀ e : MapEntry, e.fits = true ↔ ∀ t, e = .take t → t.offset.val + (if t.wide then 2 else 1) ≤ 7) ∧
  ∀ (tag token : Byte) (a : Args) (s : State) (count : Byte) (index : Nat), s.serves tag count index →
    (∀ (i : Fin 48) (e : MapEntry), s.fresh token 0x10 a → a.a0.toNat = i.val → mapEntryOf a.a1 a.a2 a.a3 = some e →
      s.map.commitPending = false →
      exec (.mapWrite tag token a) s = .next
        (({ s with map := { s.map with staging := setAt s.map.staging i e } } : State).replied
          count index tag token 0x10 a .ok { d0 := a.a0, d1 := e.e0, d2 := e.e1, d3 := e.e2, d4 := 0 })) ∧
    (s.fresh token 0x10 a → a.a0.toNat < 48 →
      a.a1.toNat % 4 = 3 ∨
        (a.a1.toNat % 4 = 1 ∧
          (6 < a.a2.toNat / 16 ∨ (a.a2.toNat % 16 ≠ 1 ∧ a.a2.toNat % 16 ≠ 2) ∨ 15 < a.a3.toNat ∨ 1 < a.a1.toNat / 4 % 4 ∨
            1 < a.a1.toNat / 16 % 4)) →
      exec (.mapWrite tag token a) s = .next (s.refusal count index tag token .badValue noData)) ∧
    (s.fresh token 0x11 a → a.a0.toNat < 48 → 2 ≤ a.a1.toNat →
      exec (.mapRead tag token a) s = .next (s.refusal count index tag token .badValue noData)) ∧
    (∀ i : Fin 48, s.fresh token 0x11 a → a.a0.toNat = i.val → a.a1 = 1 →
      let e := s.map.staging.get i
      exec (.mapRead tag token a) s = .next
        (s.replied count index tag token 0x11 a .ok { d0 := e.e0, d1 := e.e1, d2 := e.e2, d3 := 0, d4 := 0 })) ∧
    (∀ i : Fin 48, s.fresh token 0x11 a → a.a0.toNat = i.val → a.a1 = 0 →
      let e := s.map.active.get i
      (∀ x : TakeValue, e.isTake = true → s.map.lastValues.get i = some x →
        exec (.mapRead tag token a) s = .next
          (s.replied count index tag token 0x11 a .ok
            { d0 := e.e0 + 64, d1 := e.e1, d2 := e.e2, d3 := x.first, d4 := x.second })) ∧
      (e.isTake = false ∨ s.map.lastValues.get i = none →
        exec (.mapRead tag token a) s = .next
          (s.replied count index tag token 0x11 a .ok { d0 := e.e0, d1 := e.e1, d2 := e.e2, d3 := 0, d4 := 0 }))) ∧
    (s.fresh token 0x12 a → s.map.commitPending = false → (∀ i, (s.map.staging.get i).fits = true) →
      exec (.mapCommit tag token a) s = .next
        (({ s with map := { s.map with commitPending := true } } : State).replied
          count index tag token 0x12 a .pending
          { noData with
            d0 := natByte ((List.finRange 48).countP fun i => (s.map.staging.get i).isTake)
            d1 := natByte ((List.finRange 48).countP fun i => (s.map.staging.get i).isOffer) }))

/-- RESYNC renumbers the queue from its argument with every report WAITING, never sent and without retries; FLUSH empties it with
the next number kept and clears the contacts' counts and held flags; both clear STALLED, stop the ack timer and answer with the queue
length (R80, R81, R127). -/
def Obligations.ResyncRenumbersAndFlushEmpties : Prop :=
  ∀ (tag token : Byte) (a : Args) (s : State) (count : Byte) (index : Nat), s.serves tag count index →
    (s.fresh token 0x18 a →
      exec (.resync tag token a) s = .next
        (({ s with
            queue := { s.queue with
              reports := s.queue.reports.mapIdx fun n r =>
                { r with seq := a.a0 + BitVec.ofNat 8 n, status := .waiting, everSent := false, retries := 0 }
              nextSeq := a.a0 + BitVec.ofNat 8 s.queue.reports.length
              stalled := false
              ackTimer := none } } : State).replied count index tag token 0x18 a .ok
          { noData with d0 := natByte s.queue.reports.length })) ∧
    (s.fresh token 0x19 a →
      exec (.flush tag token a) s = .next
        (({ s with
            queue := { s.queue with reports := [], lost := 0, stalled := false, ackTimer := none }
            contacts := Vector.ofFn fun i => { s.contacts.get i with queued := 0, held := false } } : State).replied
          count index tag token 0x19 a .ok { noData with d0 := natByte s.queue.reports.length }))

/-- LINE WRITE in READY with the scanner stopped replaces one entry and echoes it; LINE READ shows an entry with the level its pin is
sensed at (R94, R95). -/
def Obligations.LineRequestsWriteAndRead : Prop :=
  ∀ (tag token : Byte) (a : Args) (s : State) (count : Byte) (index : Nat) (l : Line),
    s.serves tag count index → a.a0.toNat = l.val →
    (∀ e : LineEntry, s.fresh token 0x20 a → s.node.state = .ready → s.scanner.enabled = false →
      lineEntryOf a.a1 a.a2 a.a3 a.a4 = some e →
      exec (.lineWrite tag token a) s = .next
        (({ s with lines := { s.lines with entries := setAt s.lines.entries l e } } : State).replied
          count index tag token 0x20 a .ok
          { d0 := a.a0, d1 := e.function, d2 := e.index, d3 := e.option, d4 := e.polarity })) ∧
    (s.fresh token 0x20 a → s.node.state = .ready → s.scanner.enabled = false → lineEntryOf a.a1 a.a2 a.a3 a.a4 = none →
      exec (.lineWrite tag token a) s = .next (s.refusal count index tag token .badValue noData)) ∧
    (∀ v : PinView, s.fresh token 0x21 a →
      let e := s.lines.entries.get l
      exec (.lineRead tag token a v) s = .next
        (s.replied count index tag token 0x21 a .ok
          { d0 := e.function, d1 := e.index, d2 := e.option, d3 := e.polarity,
            d4 := if sensedHigh s l v then 1 else 0 }))

/-- SCAN SET with the scanner stopped writes the interval and D, or one contact's sense and F, and answers with them; a part, an
interval, a D, a sense or an F out of range is refused with BAD_VALUE, the scanner enabled or not (R114, R115, R131). -/
def Obligations.ScanSetWritesItsPart : Prop :=
  ∀ (tag token : Byte) (a : Args) (s : State) (count : Byte) (index : Nat),
    s.serves tag count index → s.fresh token 0x28 a →
    let matrixFits := 1 ≤ a.a1.toNat ∧ a.a1.toNat ≤ 32 ∧ 1 ≤ a.a2.toNat ∧ a.a2.toNat ≤ 15
    (a.a0 = 0 → matrixFits → s.scanner.enabled = false →
      exec (.scanSet tag token a) s = .next
        (({ s with scanner := { s.scanner with interval := a.a1, debounce := a.a2 } } : State).replied
          count index tag token 0x28 a .ok { noData with d0 := 0, d1 := a.a1, d2 := a.a2 })) ∧
    (∀ (i : Fin 8) (sense : Sense), a.a0 = 1 → a.a1.toNat = i.val → a.a2 = sense.code → a.a3.toNat ≤ 15 →
      s.scanner.enabled = false → ¬(sense = .whileActive ∧ 2 ≤ (s.contacts.get i).queued) →
      exec (.scanSet tag token a) s = .next
        (({ s with
            contacts := setAt s.contacts i
              { s.contacts.get i with sense := sense, filter := BitVec.ofNat 4 a.a3.toNat } } : State).replied
          count index tag token 0x28 a .ok { noData with d0 := 1, d1 := a.a1, d2 := a.a2, d3 := a.a3 })) ∧
    (2 ≤ a.a0.toNat ∨ (a.a0 = 0 ∧ ¬matrixFits) ∨
        (a.a0 = 1 ∧ a.a1.toNat < 8 ∧ (5 ≤ a.a2.toNat ∨ 16 ≤ a.a3.toNat)) →
      exec (.scanSet tag token a) s = .next (s.refusal count index tag token .badValue noData))

/-- SCAN GET shows the matrix settings, the size and the held keys, or one contact's state; KEYS READ a row's held and blocked columns
as sets; CONTACTS READ the active, known, raw and held sets; none changes anything (R116, R117, R132, R133). A SCAN GET of a part above 1
is refused with BAD_VALUE (R114). -/
def Obligations.ScanReadsShowKeysAndContacts : Prop :=
  ∀ (tag token : Byte) (a : Args) (s : State) (count : Byte) (index : Nat), s.serves tag count index →
    (s.fresh token 0x29 a → a.a0 = 0 →
      exec (.scanGet tag token a) s = .next
        (s.replied count index tag token 0x29 a .ok
          { d0 := s.scanner.interval, d1 := s.scanner.debounce, d2 := if s.scanner.enabled then 1 else 0
            d3 := natByte (16 * s.scanner.rowLines.length + s.scanner.columnLines.length)
            d4 := natByte (heldCount s.scanner.keys) })) ∧
    (s.fresh token 0x29 a → 2 ≤ a.a0.toNat →
      exec (.scanGet tag token a) s = .next (s.refusal count index tag token .badValue noData)) ∧
    (∀ i : Fin 8, s.fresh token 0x29 a → a.a0 = 1 → a.a1.toNat = i.val →
      let c := s.contacts.get i
      exec (.scanGet tag token a) s = .next
        (s.replied count index tag token 0x29 a .ok
          { d0 := c.sense.code, d1 := natByte (16 * c.filter.toNat + c.agree.toNat), d2 := c.filtered.code
            d3 := if c.held then 1 else 0, d4 := natByte c.queued })) ∧
    (∀ row : Fin 8, s.fresh token 0x2A a → a.a0.toNat = row.val →
      ∃ held blocked : Byte,
        exec (.keysRead tag token a) s = .next
          (s.replied count index tag token 0x2A a .ok { noData with d0 := a.a0, d1 := held, d2 := blocked }) ∧
        ∀ k : Fin 64, keyRow k = row.val →
          (held.getLsbD (keyColumn k) = true ↔
            s.scanner.keys.get k = .down ∨ ∃ n, s.scanner.keys.get k = .releasePending n) ∧
          (blocked.getLsbD (keyColumn k) = true ↔ s.scanner.keys.get k = .blocked)) ∧
    (s.fresh token 0x2B a →
      ∃ active known raw held : Byte,
        exec (.contactsRead tag token a) s = .next
          (s.replied count index tag token 0x2B a .ok { d0 := active, d1 := known, d2 := raw, d3 := held, d4 := 0 }) ∧
        ∀ i : Fin 8,
          (active.getLsbD i.val = true ↔ (s.contacts.get i).filtered = .active) ∧
          (known.getLsbD i.val = true ↔ (s.contacts.get i).filtered ≠ .unknown) ∧
          (raw.getLsbD i.val = true ↔ (s.contacts.get i).lastRaw = true) ∧
          (held.getLsbD i.val = true ↔ (s.contacts.get i).held = true))

/-- EFFECT WRITE and SEGMENT WRITE replace a record that is not in play and a segment that is not in use, and echo it (R152, R153). An effect
is in play where a channel is PLAYING it, and a segment in use where it lies in the range of such an effect (R136). -/
def Obligations.EffectMemoryWrites : Prop :=
  (
    ∀ e : Engine,
      let plays (ch : Fin 16) (i : Fin 32) : Prop :=
        ∃ position tick segStart runs, (e.channels.get ch).motion = .playing i position tick segStart runs
      (∀ i : Fin 32, e.inPlay i = true ↔ ∃ ch, plays ch i) ∧
      (∀ j : Fin 128, e.segmentInUse j = true ↔ ∃ ch i, plays ch i ∧ (e.effects.get i).first.val ≤ j.val ∧
        j.val < (e.effects.get i).first.val + (e.effects.get i).count.val)) ∧
  ∀ (tag token : Byte) (a : Args) (s : State) (count : Byte) (index : Nat), s.serves tag count index →
    (∀ (i : Fin 32) (r : EffectRecord), s.fresh token 0x30 a → a.a0.toNat = i.val →
      effectRecordOf a.a1 a.a2 a.a3 a.a4 = some r → s.engine.inPlay i = false →
      exec (.effectWrite tag token a) s = .next
        (({ s with engine := { s.engine with effects := setAt s.engine.effects i r } } : State).replied
          count index tag token 0x30 a .ok
          { d0 := a.a0, d1 := natByte r.first.val, d2 := r.f1, d3 := r.repeatCount, d4 := r.endAction.value })) ∧
    (∀ i : Fin 32, s.fresh token 0x30 a → a.a0.toNat = i.val → effectRecordOf a.a1 a.a2 a.a3 a.a4 = none →
      exec (.effectWrite tag token a) s = .next (s.refusal count index tag token .badValue noData)) ∧
    (∀ j : Fin 128, s.fresh token 0x32 a → a.a0.toNat = j.val → s.engine.segmentInUse j = false →
      exec (.segmentWrite tag token a) s = .next
        (({ s with
            engine := { s.engine with
              segments := setAt s.engine.segments j { target := a.a1, ramp := a.a2, hold := a.a3 } } } : State).replied
          count index tag token 0x32 a .ok { d0 := a.a0, d1 := a.a1, d2 := a.a2, d3 := a.a3, d4 := 0 }))

/-- EFFECT READ shows a record and SEGMENT READ a segment with its in-use flag, set exactly where a playing channel's effect holds the
segment in its range; an index out of range is refused with BAD_INDEX, and neither changes anything (R158). -/
def Obligations.EffectMemoryReads : Prop :=
  ∀ (tag token : Byte) (a : Args) (s : State) (count : Byte) (index : Nat), s.serves tag count index →
    (∀ i : Fin 32, s.fresh token 0x31 a → a.a0.toNat = i.val →
      let r := s.engine.effects.get i
      exec (.effectRead tag token a) s = .next
        (s.replied count index tag token 0x31 a .ok
          { d0 := a.a0, d1 := natByte r.first.val, d2 := r.f1, d3 := r.repeatCount, d4 := r.endAction.value })) ∧
    (s.fresh token 0x31 a → 32 ≤ a.a0.toNat →
      exec (.effectRead tag token a) s = .next (s.refusal count index tag token .badIndex noData)) ∧
    (∀ j : Fin 128, s.fresh token 0x33 a → a.a0.toNat = j.val →
      let g := s.engine.segments.get j
      ∃ inUse : Byte,
        exec (.segmentRead tag token a) s = .next
          (s.replied count index tag token 0x33 a .ok
            { d0 := a.a0, d1 := g.target, d2 := g.ramp, d3 := g.hold, d4 := inUse }) ∧
        (inUse = 0 ∨ inUse = 1) ∧
        (inUse = 1 ↔ ∃ (ch : Fin 16) (i : Fin 32), (s.engine.channels.get ch).motion.effect? = some i ∧
          (s.engine.effects.get i).first.val ≤ j.val ∧
          j.val < (s.engine.effects.get i).first.val + (s.engine.effects.get i).count.val)) ∧
    (s.fresh token 0x33 a → 128 ≤ a.a0.toNat →
      exec (.segmentRead tag token a) s = .next (s.refusal count index tag token .badIndex noData))

/-- CHANNEL SET writes a channel's fallback mode and value; CHANNEL GET shows the two pages by mode, and refuses any other page with
BAD_VALUE (R156, R157). -/
def Obligations.ChannelSetAndGet : Prop :=
  ∀ (tag token : Byte) (a : Args) (s : State) (count : Byte) (index : Nat) (ch : Fin 16),
    s.serves tag count index → a.a0.toNat = ch.val →
    let c := s.engine.channels.get ch
    (∀ f : FallbackMode, s.fresh token 0x38 a → a.a1 = f.code → a.a2 = f.value →
      exec (.channelSet tag token a) s = .next
        (({ s with
            engine := { s.engine with channels := setAt s.engine.channels ch { c with fallback := f } } } : State).replied
          count index tag token 0x38 a .ok { noData with d0 := a.a0, d1 := f.code, d2 := f.value })) ∧
    (s.fresh token 0x38 a → 3 ≤ a.a1.toNat ∨ (a.a1 = 2 ∧ 32 ≤ a.a2.toNat) →
      exec (.channelSet tag token a) s = .next (s.refusal count index tag token .badValue noData)) ∧
    (s.fresh token 0x39 a → a.a1 = 0 →
      exec (.channelGet tag token a) s = .next
        (s.replied count index tag token 0x39 a .ok
          { d0 := match c.motion with
              | .steady => 0
              | .gliding _ _ _ _ => 1
              | .playing _ _ _ _ _ => 2
            d1 := c.level
            d2 := c.fallback.code
            d3 := c.fallback.value
            d4 := match c.motion with
              | .steady => 0
              | .gliding start _ _ _ => start
              | .playing _ _ _ segStart _ => segStart })) ∧
    (s.fresh token 0x39 a → a.a1 = 1 →
      exec (.channelGet tag token a) s = .next
        (s.replied count index tag token 0x39 a .ok
          (match c.motion with
            | .steady => noData
            | .gliding _ target length elapsed => { noData with d0 := target, d1 := length, d2 := natByte elapsed }
            | .playing i position tick _ runs =>
              { d0 := natByte i.val, d1 := natByte position, d2 := natByte (tick / 256), d3 := natByte tick,
                d4 := runs.getD 0 }))) ∧
    (s.fresh token 0x39 a → 2 ≤ a.a1.toNat →
      exec (.channelGet tag token a) s = .next (s.refusal count index tag token .badValue noData))

/-- CHANNEL DRIVE is carried out as the same drive a TAKE makes, without touching a last value, and answers with the channel's mode and
level after it; a mode, a width or an EFFECT selector of 32-254 out of range is refused with BAD_VALUE and counter 7 is left (R146,
R147, R148, R155). -/
def Obligations.ChannelDriveDrives : Prop :=
  ∀ (tag token : Byte) (a : Args) (s : State) (count : Byte) (index : Nat) (ch : Fin 16),
    s.serves tag count index → s.fresh token 0x3A a → a.a0.toNat = ch.val →
    let c := s.engine.channels.get ch
    let done (c' : Channel) : State :=
      ({ s with engine := { s.engine with channels := setAt s.engine.channels ch c' } } : State).replied
        count index tag token 0x3A a .ok { noData with d0 := a.a0, d1 := c'.motion.code, d2 := c'.level }
    (a.a1 = 0 → a.a2 = 1 ∨ (a.a2 = 2 ∧ a.a4 = 0) →
      exec (.channelDrive tag token a) s = .next (done { c with motion := .steady, level := a.a3 })) ∧
    (a.a1 = 0 → a.a2 = 2 → a.a4 ≠ 0 →
      exec (.channelDrive tag token a) s = .next (done { c with motion := .gliding c.level a.a3 a.a4 0 })) ∧
    (∀ i : Fin 32, a.a1 = 1 → a.a2 = 1 ∨ a.a2 = 2 → a.a3.toNat = i.val →
      exec (.channelDrive tag token a) s = .next
        (done (s.engine.startEffect i (if a.a2 = 2 then a.a4 else 0) c))) ∧
    (a.a1 = 1 → a.a2 = 1 ∨ a.a2 = 2 → a.a3 = 255 →
      exec (.channelDrive tag token a) s = .next (done { c with motion := .steady })) ∧
    (2 ≤ a.a1.toNat ∨ a.a2 = 0 ∨ 3 ≤ a.a2.toNat ∨ (a.a1 = 1 ∧ 32 ≤ a.a3.toNat ∧ a.a3.toNat ≤ 254) →
      exec (.channelDrive tag token a) s = .next (s.refusal count index tag token .badValue noData))

/-! ## Rules of the whole machine -/

/-- The check is the CRC-8 of R192: from 0xFF, each byte taken in most significant bit first with the polynomial 0x07, over bytes 0-4 of a
header and 0-8 of a slot. It finds a change of any one byte: the CRC-8 of a part differs whenever exactly one of its bytes differs. -/
def Obligations.CheckFindsOneChangedByte : Prop :=
  (
    let shift (r : Byte) : Byte := if r.getLsbD 7 then (r <<< 1) ^^^ 0x07 else r <<< 1
    crc8 [] = 0xFF ∧ (∀ (bytes : List Byte) (b : Byte), crc8 (bytes ++ [b]) = shift^[8] (crc8 bytes ^^^ b)) ∧
    (∀ h : HeaderBytes, headerCheck h = crc8 [h.kind, h.cycle, h.epoch, h.hop, h.slots]) ∧
    (∀ (kind tag : Byte) (p : Payload),
      slotCheck kind tag p = crc8 [kind, tag, p.p0, p.p1, p.p2, p.p3, p.p4, p.p5, p.p6])) ∧
  ∀ (bytes : List Byte) (i : Nat) (x : Byte) (h : i < bytes.length), bytes[i] ≠ x → crc8 (bytes.set i x) ≠ crc8 bytes

/-- Only two kinds of slot leave the node altered: a free container, filled in RUNNING by a queue that is not STALLED with the tag of the
node's own position and the payload of the oldest WAITING report of the queue (R69, R195), and a request addressed to the node, answered under its own tag and token; both with a good check (R8, R68, R166). -/
def Obligations.SlotsAreAlteredOnlyByOfferOrReply : Prop :=
  ∀ (s t : State) (b b' : SlotBytes) (v : PinView), s.phase = .operating → exec (.slotArrival b v) s = .next t →
    t.port.loopOut = .part (.slot b') →
    b' = b ∨
    (goodSlot b ∧ goodSlot b' ∧ b.kind = 0x02 ∧ b.tag = 0xFF ∧ b'.kind = 0x02 ∧ s.node.position = some b'.tag ∧
      s.node.state = .running ∧ s.queue.stalled = false ∧
      ∃ (older newer : List Report) (r : Report),
        s.queue.reports = older ++ r :: newer ∧ (∀ x ∈ older, x.status = .sent) ∧ r.status = .waiting ∧
        b'.payload =
          { p0 := r.seq, p1 := r.body.kindCode, p2 := r.body.source, p3 := r.body.value, p4 := r.body.extra,
            p5 := r.cycle, p6 := if r.everSent then 1 else 0 }) ∨
    (goodSlot b ∧ goodSlot b' ∧ b.kind = 0x04 ∧ b'.kind = 0x05 ∧ s.node.position = some b'.tag ∧ b'.tag = b.tag ∧
      b'.payload.p0 = b.payload.p0)

/-- The active slot map changes only as a whole. To the staging map: by a pending commit, at a NORMAL header of the node's own epoch or in
COMMIT_CARRIED_OUT between such a header and its frame's first slot. To all PASS: by a reset, which is a reset of the whole node, a NODE RESET that is due and that this command settles, or a
BLOCK RESET naming SLOT_MAP (R40, R53, R57, R59; for COMMIT_CARRIED_OUT entry 15, for the settling commands entry 4, for what a power loss leaves entry 14). -/
def Obligations.ActiveMapChangesAsAWhole : Prop :=
  ∀ (c : Instr) (s t : State), exec c s = .next t →
    t.map.active = s.map.active ∨
    (t.map.active = s.map.staging ∧ s.map.commitPending = true ∧ s.node.state ≠ .unaddressed ∧
      ((c = .commitCarriedOut ∧ s.node.state ≠ .fallback ∧ ∃ count, s.port.frame = .slots count 0 (some .normal)) ∨
        ∃ h, c = .headerArrival h ∧ s.port.frame = .header ∧ deliverable h ∧ h.kind = 0x01 ∧
          s.node.epoch = some h.epoch)) ∨
    (t.map.active = Vector.replicate 48 .pass ∧
      (c = .powerOnReset ∨ c = .powerLoss ∨ (∃ pulse, c = .pinReset pulse) ∨
        (s.phase = .operating ∧ s.node.resetDue = true ∧ settlesReset c = true) ∨
        (s.phase = .operating ∧ blockResetOfMap c = true)))

/-! ## Invariants -/

/-- Every invariant holds right after reset (R16, R37, R59, R86, R100, R119, R134, R159, R191). -/
def Obligations.ResetMeetsEveryInvariant : Prop := Inv State.reset

/-- Every step keeps the invariants of the supply, the loop port, the frame event, the node controller, the slot map and the management agent: LOUT idle while
BYPASS is asserted; no delivered frame open and no run of bad headers in SEARCHING; no commit left pending between an own-epoch header and its frame's
first slot; a position and an epoch exactly outside UNADDRESSED, the
silence timer exactly in RUNNING, the outage timer exactly in FALLBACK; no active entry past the payload; no cached refusal (R1, R2, R11 to
R13, R15, R16, R19, R26, R31, R38, R39, R53, R163, R172). -/
def Obligations.StepKeepsPortNodeMapAndAgent : Prop :=
  (
    (∀ s t : State, SupplyInv s → step s = .next t → SupplyInv t) ∧ (∀ s t : State, PortInv s → step s = .next t → PortInv t) ∧
    (∀ s t : State, FrameEventInv s → step s = .next t → FrameEventInv t)) ∧
  (
    (∀ s t : State, NodeInv s → step s = .next t → NodeInv t) ∧
    (∀ s t : State, MapInv s → step s = .next t → MapInv t) ∧
    (∀ s t : State, AgentInv s → step s = .next t → AgentInv t))

/-- Every step keeps the report queue's invariant: consecutive numbers, the places, SENT the oldest and at most W in RUNNING alone, the
ack timer exactly while a report is SENT, losses held only beside an OVERRUN report (R60, R63 to R66, R70, R71, R76, R78, R83). -/
def Obligations.StepKeepsTheQueue : Prop :=
  ∀ s t : State, QueueInv s → step s = .next t → QueueInv t

/-- Every step keeps the contacts in agreement with the queue: each queued count is the number of that contact's reports, a held flag
has a report behind it, and WHILE_ACTIVE has at most one (R120, R125, R126, R129). -/
def Obligations.StepKeepsContactsInAgreement : Prop :=
  ∀ s t : State, ContactInv s → ScannerInv s → step s = .next t → ContactInv t

/-- Every step keeps the scanner's invariant: at most four keys held, keys outside the matrix UP, counts below D, and the lines of an
enabled scanner those of the line map (R99, R101 to R103, R108 to R110, R115). -/
def Obligations.StepKeepsTheScanner : Prop :=
  ∀ s t : State, ScannerInv s → step s = .next t → ScannerInv t

/-- Every step keeps the indicator engine's invariant: every range in the pool, a moving glide with ticks left, a playing channel within
a segment of a non-empty record with a run left (R135 to R137, R140 to R144, R152, R153). -/
def Obligations.StepKeepsTheEngine : Prop :=
  ∀ s t : State, EngineInv s → step s = .next t → EngineInv t
end

