-- ==== Sys2Proof/Laws/State.lean ====
section
/-! SUPPORT. What each replacement of one block leaves: one law per field per update, and the laws of the small operations of
Machine/Ops.lean. -/

namespace Sys2Proof.Machine

@[simp] theorem State.withPhase_phase (s : State) (x : Phase) : (s.withPhase x).phase = x := rfl
@[simp] theorem State.withPhase_resetPinLow (s : State) (x : Phase) : (s.withPhase x).resetPinLow = s.resetPinLow := rfl
@[simp] theorem State.withPhase_port (s : State) (x : Phase) : (s.withPhase x).port = s.port := rfl
@[simp] theorem State.withPhase_node (s : State) (x : Phase) : (s.withPhase x).node = s.node := rfl
@[simp] theorem State.withPhase_map (s : State) (x : Phase) : (s.withPhase x).map = s.map := rfl
@[simp] theorem State.withPhase_queue (s : State) (x : Phase) : (s.withPhase x).queue = s.queue := rfl
@[simp] theorem State.withPhase_lines (s : State) (x : Phase) : (s.withPhase x).lines = s.lines := rfl
@[simp] theorem State.withPhase_scanner (s : State) (x : Phase) : (s.withPhase x).scanner = s.scanner := rfl
@[simp] theorem State.withPhase_contacts (s : State) (x : Phase) : (s.withPhase x).contacts = s.contacts := rfl
@[simp] theorem State.withPhase_engine (s : State) (x : Phase) : (s.withPhase x).engine = s.engine := rfl
@[simp] theorem State.withPhase_agent (s : State) (x : Phase) : (s.withPhase x).agent = s.agent := rfl
@[simp] theorem State.withPhase_counters (s : State) (x : Phase) : (s.withPhase x).counters = s.counters := rfl
@[simp] theorem State.withPhase_freeIndex (s : State) (x : Phase) : (s.withPhase x).freeIndex = s.freeIndex := rfl
@[simp] theorem State.withPhase_pending (s : State) (x : Phase) : (s.withPhase x).pending = s.pending := rfl
@[simp] theorem State.withResetPinLow_phase (s : State) (x : Bool) : (s.withResetPinLow x).phase = s.phase := rfl
@[simp] theorem State.withResetPinLow_resetPinLow (s : State) (x : Bool) : (s.withResetPinLow x).resetPinLow = x := rfl
@[simp] theorem State.withResetPinLow_port (s : State) (x : Bool) : (s.withResetPinLow x).port = s.port := rfl
@[simp] theorem State.withResetPinLow_node (s : State) (x : Bool) : (s.withResetPinLow x).node = s.node := rfl
@[simp] theorem State.withResetPinLow_map (s : State) (x : Bool) : (s.withResetPinLow x).map = s.map := rfl
@[simp] theorem State.withResetPinLow_queue (s : State) (x : Bool) : (s.withResetPinLow x).queue = s.queue := rfl
@[simp] theorem State.withResetPinLow_lines (s : State) (x : Bool) : (s.withResetPinLow x).lines = s.lines := rfl
@[simp] theorem State.withResetPinLow_scanner (s : State) (x : Bool) : (s.withResetPinLow x).scanner = s.scanner := rfl
@[simp] theorem State.withResetPinLow_contacts (s : State) (x : Bool) : (s.withResetPinLow x).contacts = s.contacts := rfl
@[simp] theorem State.withResetPinLow_engine (s : State) (x : Bool) : (s.withResetPinLow x).engine = s.engine := rfl
@[simp] theorem State.withResetPinLow_agent (s : State) (x : Bool) : (s.withResetPinLow x).agent = s.agent := rfl
@[simp] theorem State.withResetPinLow_counters (s : State) (x : Bool) : (s.withResetPinLow x).counters = s.counters := rfl
@[simp] theorem State.withResetPinLow_freeIndex (s : State) (x : Bool) : (s.withResetPinLow x).freeIndex = s.freeIndex := rfl
@[simp] theorem State.withResetPinLow_pending (s : State) (x : Bool) : (s.withResetPinLow x).pending = s.pending := rfl
@[simp] theorem State.withPort_phase (s : State) (x : Port) : (s.withPort x).phase = s.phase := rfl
@[simp] theorem State.withPort_resetPinLow (s : State) (x : Port) : (s.withPort x).resetPinLow = s.resetPinLow := rfl
@[simp] theorem State.withPort_port (s : State) (x : Port) : (s.withPort x).port = x := rfl
@[simp] theorem State.withPort_node (s : State) (x : Port) : (s.withPort x).node = s.node := rfl
@[simp] theorem State.withPort_map (s : State) (x : Port) : (s.withPort x).map = s.map := rfl
@[simp] theorem State.withPort_queue (s : State) (x : Port) : (s.withPort x).queue = s.queue := rfl
@[simp] theorem State.withPort_lines (s : State) (x : Port) : (s.withPort x).lines = s.lines := rfl
@[simp] theorem State.withPort_scanner (s : State) (x : Port) : (s.withPort x).scanner = s.scanner := rfl
@[simp] theorem State.withPort_contacts (s : State) (x : Port) : (s.withPort x).contacts = s.contacts := rfl
@[simp] theorem State.withPort_engine (s : State) (x : Port) : (s.withPort x).engine = s.engine := rfl
@[simp] theorem State.withPort_agent (s : State) (x : Port) : (s.withPort x).agent = s.agent := rfl
@[simp] theorem State.withPort_counters (s : State) (x : Port) : (s.withPort x).counters = s.counters := rfl
@[simp] theorem State.withPort_freeIndex (s : State) (x : Port) : (s.withPort x).freeIndex = s.freeIndex := rfl
@[simp] theorem State.withPort_pending (s : State) (x : Port) : (s.withPort x).pending = s.pending := rfl
@[simp] theorem State.withNode_phase (s : State) (x : NodeCtl) : (s.withNode x).phase = s.phase := rfl
@[simp] theorem State.withNode_resetPinLow (s : State) (x : NodeCtl) : (s.withNode x).resetPinLow = s.resetPinLow := rfl
@[simp] theorem State.withNode_port (s : State) (x : NodeCtl) : (s.withNode x).port = s.port := rfl
@[simp] theorem State.withNode_node (s : State) (x : NodeCtl) : (s.withNode x).node = x := rfl
@[simp] theorem State.withNode_map (s : State) (x : NodeCtl) : (s.withNode x).map = s.map := rfl
@[simp] theorem State.withNode_queue (s : State) (x : NodeCtl) : (s.withNode x).queue = s.queue := rfl
@[simp] theorem State.withNode_lines (s : State) (x : NodeCtl) : (s.withNode x).lines = s.lines := rfl
@[simp] theorem State.withNode_scanner (s : State) (x : NodeCtl) : (s.withNode x).scanner = s.scanner := rfl
@[simp] theorem State.withNode_contacts (s : State) (x : NodeCtl) : (s.withNode x).contacts = s.contacts := rfl
@[simp] theorem State.withNode_engine (s : State) (x : NodeCtl) : (s.withNode x).engine = s.engine := rfl
@[simp] theorem State.withNode_agent (s : State) (x : NodeCtl) : (s.withNode x).agent = s.agent := rfl
@[simp] theorem State.withNode_counters (s : State) (x : NodeCtl) : (s.withNode x).counters = s.counters := rfl
@[simp] theorem State.withNode_freeIndex (s : State) (x : NodeCtl) : (s.withNode x).freeIndex = s.freeIndex := rfl
@[simp] theorem State.withNode_pending (s : State) (x : NodeCtl) : (s.withNode x).pending = s.pending := rfl
@[simp] theorem State.withMap_phase (s : State) (x : SlotMap) : (s.withMap x).phase = s.phase := rfl
@[simp] theorem State.withMap_resetPinLow (s : State) (x : SlotMap) : (s.withMap x).resetPinLow = s.resetPinLow := rfl
@[simp] theorem State.withMap_port (s : State) (x : SlotMap) : (s.withMap x).port = s.port := rfl
@[simp] theorem State.withMap_node (s : State) (x : SlotMap) : (s.withMap x).node = s.node := rfl
@[simp] theorem State.withMap_map (s : State) (x : SlotMap) : (s.withMap x).map = x := rfl
@[simp] theorem State.withMap_queue (s : State) (x : SlotMap) : (s.withMap x).queue = s.queue := rfl
@[simp] theorem State.withMap_lines (s : State) (x : SlotMap) : (s.withMap x).lines = s.lines := rfl
@[simp] theorem State.withMap_scanner (s : State) (x : SlotMap) : (s.withMap x).scanner = s.scanner := rfl
@[simp] theorem State.withMap_contacts (s : State) (x : SlotMap) : (s.withMap x).contacts = s.contacts := rfl
@[simp] theorem State.withMap_engine (s : State) (x : SlotMap) : (s.withMap x).engine = s.engine := rfl
@[simp] theorem State.withMap_agent (s : State) (x : SlotMap) : (s.withMap x).agent = s.agent := rfl
@[simp] theorem State.withMap_counters (s : State) (x : SlotMap) : (s.withMap x).counters = s.counters := rfl
@[simp] theorem State.withMap_freeIndex (s : State) (x : SlotMap) : (s.withMap x).freeIndex = s.freeIndex := rfl
@[simp] theorem State.withMap_pending (s : State) (x : SlotMap) : (s.withMap x).pending = s.pending := rfl
@[simp] theorem State.withQueue_phase (s : State) (x : Queue) : (s.withQueue x).phase = s.phase := rfl
@[simp] theorem State.withQueue_resetPinLow (s : State) (x : Queue) : (s.withQueue x).resetPinLow = s.resetPinLow := rfl
@[simp] theorem State.withQueue_port (s : State) (x : Queue) : (s.withQueue x).port = s.port := rfl
@[simp] theorem State.withQueue_node (s : State) (x : Queue) : (s.withQueue x).node = s.node := rfl
@[simp] theorem State.withQueue_map (s : State) (x : Queue) : (s.withQueue x).map = s.map := rfl
@[simp] theorem State.withQueue_queue (s : State) (x : Queue) : (s.withQueue x).queue = x := rfl
@[simp] theorem State.withQueue_lines (s : State) (x : Queue) : (s.withQueue x).lines = s.lines := rfl
@[simp] theorem State.withQueue_scanner (s : State) (x : Queue) : (s.withQueue x).scanner = s.scanner := rfl
@[simp] theorem State.withQueue_contacts (s : State) (x : Queue) : (s.withQueue x).contacts = s.contacts := rfl
@[simp] theorem State.withQueue_engine (s : State) (x : Queue) : (s.withQueue x).engine = s.engine := rfl
@[simp] theorem State.withQueue_agent (s : State) (x : Queue) : (s.withQueue x).agent = s.agent := rfl
@[simp] theorem State.withQueue_counters (s : State) (x : Queue) : (s.withQueue x).counters = s.counters := rfl
@[simp] theorem State.withQueue_freeIndex (s : State) (x : Queue) : (s.withQueue x).freeIndex = s.freeIndex := rfl
@[simp] theorem State.withQueue_pending (s : State) (x : Queue) : (s.withQueue x).pending = s.pending := rfl
@[simp] theorem State.withLines_phase (s : State) (x : LineMap) : (s.withLines x).phase = s.phase := rfl
@[simp] theorem State.withLines_resetPinLow (s : State) (x : LineMap) : (s.withLines x).resetPinLow = s.resetPinLow := rfl
@[simp] theorem State.withLines_port (s : State) (x : LineMap) : (s.withLines x).port = s.port := rfl
@[simp] theorem State.withLines_node (s : State) (x : LineMap) : (s.withLines x).node = s.node := rfl
@[simp] theorem State.withLines_map (s : State) (x : LineMap) : (s.withLines x).map = s.map := rfl
@[simp] theorem State.withLines_queue (s : State) (x : LineMap) : (s.withLines x).queue = s.queue := rfl
@[simp] theorem State.withLines_lines (s : State) (x : LineMap) : (s.withLines x).lines = x := rfl
@[simp] theorem State.withLines_scanner (s : State) (x : LineMap) : (s.withLines x).scanner = s.scanner := rfl
@[simp] theorem State.withLines_contacts (s : State) (x : LineMap) : (s.withLines x).contacts = s.contacts := rfl
@[simp] theorem State.withLines_engine (s : State) (x : LineMap) : (s.withLines x).engine = s.engine := rfl
@[simp] theorem State.withLines_agent (s : State) (x : LineMap) : (s.withLines x).agent = s.agent := rfl
@[simp] theorem State.withLines_counters (s : State) (x : LineMap) : (s.withLines x).counters = s.counters := rfl
@[simp] theorem State.withLines_freeIndex (s : State) (x : LineMap) : (s.withLines x).freeIndex = s.freeIndex := rfl
@[simp] theorem State.withLines_pending (s : State) (x : LineMap) : (s.withLines x).pending = s.pending := rfl
@[simp] theorem State.withScanner_phase (s : State) (x : Scanner) : (s.withScanner x).phase = s.phase := rfl
@[simp] theorem State.withScanner_resetPinLow (s : State) (x : Scanner) : (s.withScanner x).resetPinLow = s.resetPinLow := rfl
@[simp] theorem State.withScanner_port (s : State) (x : Scanner) : (s.withScanner x).port = s.port := rfl
@[simp] theorem State.withScanner_node (s : State) (x : Scanner) : (s.withScanner x).node = s.node := rfl
@[simp] theorem State.withScanner_map (s : State) (x : Scanner) : (s.withScanner x).map = s.map := rfl
@[simp] theorem State.withScanner_queue (s : State) (x : Scanner) : (s.withScanner x).queue = s.queue := rfl
@[simp] theorem State.withScanner_lines (s : State) (x : Scanner) : (s.withScanner x).lines = s.lines := rfl
@[simp] theorem State.withScanner_scanner (s : State) (x : Scanner) : (s.withScanner x).scanner = x := rfl
@[simp] theorem State.withScanner_contacts (s : State) (x : Scanner) : (s.withScanner x).contacts = s.contacts := rfl
@[simp] theorem State.withScanner_engine (s : State) (x : Scanner) : (s.withScanner x).engine = s.engine := rfl
@[simp] theorem State.withScanner_agent (s : State) (x : Scanner) : (s.withScanner x).agent = s.agent := rfl
@[simp] theorem State.withScanner_counters (s : State) (x : Scanner) : (s.withScanner x).counters = s.counters := rfl
@[simp] theorem State.withScanner_freeIndex (s : State) (x : Scanner) : (s.withScanner x).freeIndex = s.freeIndex := rfl
@[simp] theorem State.withScanner_pending (s : State) (x : Scanner) : (s.withScanner x).pending = s.pending := rfl
@[simp] theorem State.withContacts_phase (s : State) (x : Vector Contact 8) : (s.withContacts x).phase = s.phase := rfl
@[simp] theorem State.withContacts_resetPinLow (s : State) (x : Vector Contact 8) : (s.withContacts x).resetPinLow = s.resetPinLow := rfl
@[simp] theorem State.withContacts_port (s : State) (x : Vector Contact 8) : (s.withContacts x).port = s.port := rfl
@[simp] theorem State.withContacts_node (s : State) (x : Vector Contact 8) : (s.withContacts x).node = s.node := rfl
@[simp] theorem State.withContacts_map (s : State) (x : Vector Contact 8) : (s.withContacts x).map = s.map := rfl
@[simp] theorem State.withContacts_queue (s : State) (x : Vector Contact 8) : (s.withContacts x).queue = s.queue := rfl
@[simp] theorem State.withContacts_lines (s : State) (x : Vector Contact 8) : (s.withContacts x).lines = s.lines := rfl
@[simp] theorem State.withContacts_scanner (s : State) (x : Vector Contact 8) : (s.withContacts x).scanner = s.scanner := rfl
@[simp] theorem State.withContacts_contacts (s : State) (x : Vector Contact 8) : (s.withContacts x).contacts = x := rfl
@[simp] theorem State.withContacts_engine (s : State) (x : Vector Contact 8) : (s.withContacts x).engine = s.engine := rfl
@[simp] theorem State.withContacts_agent (s : State) (x : Vector Contact 8) : (s.withContacts x).agent = s.agent := rfl
@[simp] theorem State.withContacts_counters (s : State) (x : Vector Contact 8) : (s.withContacts x).counters = s.counters := rfl
@[simp] theorem State.withContacts_freeIndex (s : State) (x : Vector Contact 8) : (s.withContacts x).freeIndex = s.freeIndex := rfl
@[simp] theorem State.withContacts_pending (s : State) (x : Vector Contact 8) : (s.withContacts x).pending = s.pending := rfl
@[simp] theorem State.withEngine_phase (s : State) (x : Engine) : (s.withEngine x).phase = s.phase := rfl
@[simp] theorem State.withEngine_resetPinLow (s : State) (x : Engine) : (s.withEngine x).resetPinLow = s.resetPinLow := rfl
@[simp] theorem State.withEngine_port (s : State) (x : Engine) : (s.withEngine x).port = s.port := rfl
@[simp] theorem State.withEngine_node (s : State) (x : Engine) : (s.withEngine x).node = s.node := rfl
@[simp] theorem State.withEngine_map (s : State) (x : Engine) : (s.withEngine x).map = s.map := rfl
@[simp] theorem State.withEngine_queue (s : State) (x : Engine) : (s.withEngine x).queue = s.queue := rfl
@[simp] theorem State.withEngine_lines (s : State) (x : Engine) : (s.withEngine x).lines = s.lines := rfl
@[simp] theorem State.withEngine_scanner (s : State) (x : Engine) : (s.withEngine x).scanner = s.scanner := rfl
@[simp] theorem State.withEngine_contacts (s : State) (x : Engine) : (s.withEngine x).contacts = s.contacts := rfl
@[simp] theorem State.withEngine_engine (s : State) (x : Engine) : (s.withEngine x).engine = x := rfl
@[simp] theorem State.withEngine_agent (s : State) (x : Engine) : (s.withEngine x).agent = s.agent := rfl
@[simp] theorem State.withEngine_counters (s : State) (x : Engine) : (s.withEngine x).counters = s.counters := rfl
@[simp] theorem State.withEngine_freeIndex (s : State) (x : Engine) : (s.withEngine x).freeIndex = s.freeIndex := rfl
@[simp] theorem State.withEngine_pending (s : State) (x : Engine) : (s.withEngine x).pending = s.pending := rfl
@[simp] theorem State.withAgent_phase (s : State) (x : Agent) : (s.withAgent x).phase = s.phase := rfl
@[simp] theorem State.withAgent_resetPinLow (s : State) (x : Agent) : (s.withAgent x).resetPinLow = s.resetPinLow := rfl
@[simp] theorem State.withAgent_port (s : State) (x : Agent) : (s.withAgent x).port = s.port := rfl
@[simp] theorem State.withAgent_node (s : State) (x : Agent) : (s.withAgent x).node = s.node := rfl
@[simp] theorem State.withAgent_map (s : State) (x : Agent) : (s.withAgent x).map = s.map := rfl
@[simp] theorem State.withAgent_queue (s : State) (x : Agent) : (s.withAgent x).queue = s.queue := rfl
@[simp] theorem State.withAgent_lines (s : State) (x : Agent) : (s.withAgent x).lines = s.lines := rfl
@[simp] theorem State.withAgent_scanner (s : State) (x : Agent) : (s.withAgent x).scanner = s.scanner := rfl
@[simp] theorem State.withAgent_contacts (s : State) (x : Agent) : (s.withAgent x).contacts = s.contacts := rfl
@[simp] theorem State.withAgent_engine (s : State) (x : Agent) : (s.withAgent x).engine = s.engine := rfl
@[simp] theorem State.withAgent_agent (s : State) (x : Agent) : (s.withAgent x).agent = x := rfl
@[simp] theorem State.withAgent_counters (s : State) (x : Agent) : (s.withAgent x).counters = s.counters := rfl
@[simp] theorem State.withAgent_freeIndex (s : State) (x : Agent) : (s.withAgent x).freeIndex = s.freeIndex := rfl
@[simp] theorem State.withAgent_pending (s : State) (x : Agent) : (s.withAgent x).pending = s.pending := rfl
@[simp] theorem State.withCounters_phase (s : State) (x : Vector Count 10) : (s.withCounters x).phase = s.phase := rfl
@[simp] theorem State.withCounters_resetPinLow (s : State) (x : Vector Count 10) : (s.withCounters x).resetPinLow = s.resetPinLow := rfl
@[simp] theorem State.withCounters_port (s : State) (x : Vector Count 10) : (s.withCounters x).port = s.port := rfl
@[simp] theorem State.withCounters_node (s : State) (x : Vector Count 10) : (s.withCounters x).node = s.node := rfl
@[simp] theorem State.withCounters_map (s : State) (x : Vector Count 10) : (s.withCounters x).map = s.map := rfl
@[simp] theorem State.withCounters_queue (s : State) (x : Vector Count 10) : (s.withCounters x).queue = s.queue := rfl
@[simp] theorem State.withCounters_lines (s : State) (x : Vector Count 10) : (s.withCounters x).lines = s.lines := rfl
@[simp] theorem State.withCounters_scanner (s : State) (x : Vector Count 10) : (s.withCounters x).scanner = s.scanner := rfl
@[simp] theorem State.withCounters_contacts (s : State) (x : Vector Count 10) : (s.withCounters x).contacts = s.contacts := rfl
@[simp] theorem State.withCounters_engine (s : State) (x : Vector Count 10) : (s.withCounters x).engine = s.engine := rfl
@[simp] theorem State.withCounters_agent (s : State) (x : Vector Count 10) : (s.withCounters x).agent = s.agent := rfl
@[simp] theorem State.withCounters_counters (s : State) (x : Vector Count 10) : (s.withCounters x).counters = x := rfl
@[simp] theorem State.withCounters_freeIndex (s : State) (x : Vector Count 10) : (s.withCounters x).freeIndex = s.freeIndex := rfl
@[simp] theorem State.withCounters_pending (s : State) (x : Vector Count 10) : (s.withCounters x).pending = s.pending := rfl
@[simp] theorem State.withFreeIndex_phase (s : State) (x : Nat) : (s.withFreeIndex x).phase = s.phase := rfl
@[simp] theorem State.withFreeIndex_resetPinLow (s : State) (x : Nat) : (s.withFreeIndex x).resetPinLow = s.resetPinLow := rfl
@[simp] theorem State.withFreeIndex_port (s : State) (x : Nat) : (s.withFreeIndex x).port = s.port := rfl
@[simp] theorem State.withFreeIndex_node (s : State) (x : Nat) : (s.withFreeIndex x).node = s.node := rfl
@[simp] theorem State.withFreeIndex_map (s : State) (x : Nat) : (s.withFreeIndex x).map = s.map := rfl
@[simp] theorem State.withFreeIndex_queue (s : State) (x : Nat) : (s.withFreeIndex x).queue = s.queue := rfl
@[simp] theorem State.withFreeIndex_lines (s : State) (x : Nat) : (s.withFreeIndex x).lines = s.lines := rfl
@[simp] theorem State.withFreeIndex_scanner (s : State) (x : Nat) : (s.withFreeIndex x).scanner = s.scanner := rfl
@[simp] theorem State.withFreeIndex_contacts (s : State) (x : Nat) : (s.withFreeIndex x).contacts = s.contacts := rfl
@[simp] theorem State.withFreeIndex_engine (s : State) (x : Nat) : (s.withFreeIndex x).engine = s.engine := rfl
@[simp] theorem State.withFreeIndex_agent (s : State) (x : Nat) : (s.withFreeIndex x).agent = s.agent := rfl
@[simp] theorem State.withFreeIndex_counters (s : State) (x : Nat) : (s.withFreeIndex x).counters = s.counters := rfl
@[simp] theorem State.withFreeIndex_freeIndex (s : State) (x : Nat) : (s.withFreeIndex x).freeIndex = x := rfl
@[simp] theorem State.withFreeIndex_pending (s : State) (x : Nat) : (s.withFreeIndex x).pending = s.pending := rfl
@[simp] theorem State.withPending_phase (s : State) (x : List Instr) : (s.withPending x).phase = s.phase := rfl
@[simp] theorem State.withPending_resetPinLow (s : State) (x : List Instr) : (s.withPending x).resetPinLow = s.resetPinLow := rfl
@[simp] theorem State.withPending_port (s : State) (x : List Instr) : (s.withPending x).port = s.port := rfl
@[simp] theorem State.withPending_node (s : State) (x : List Instr) : (s.withPending x).node = s.node := rfl
@[simp] theorem State.withPending_map (s : State) (x : List Instr) : (s.withPending x).map = s.map := rfl
@[simp] theorem State.withPending_queue (s : State) (x : List Instr) : (s.withPending x).queue = s.queue := rfl
@[simp] theorem State.withPending_lines (s : State) (x : List Instr) : (s.withPending x).lines = s.lines := rfl
@[simp] theorem State.withPending_scanner (s : State) (x : List Instr) : (s.withPending x).scanner = s.scanner := rfl
@[simp] theorem State.withPending_contacts (s : State) (x : List Instr) : (s.withPending x).contacts = s.contacts := rfl
@[simp] theorem State.withPending_engine (s : State) (x : List Instr) : (s.withPending x).engine = s.engine := rfl
@[simp] theorem State.withPending_agent (s : State) (x : List Instr) : (s.withPending x).agent = s.agent := rfl
@[simp] theorem State.withPending_counters (s : State) (x : List Instr) : (s.withPending x).counters = s.counters := rfl
@[simp] theorem State.withPending_freeIndex (s : State) (x : List Instr) : (s.withPending x).freeIndex = s.freeIndex := rfl
@[simp] theorem State.withPending_pending (s : State) (x : List Instr) : (s.withPending x).pending = x := rfl

/-! ## Tables, counters and the loop output -/

/-- Reading a table after one entry has been replaced. -/
theorem setAt_get {α : Type} {n : Nat} (v : Vector α n) (i j : Fin n) (x : α) :
    (setAt v i x).get j = if i = j then x else v.get j := by
  simp only [setAt, Vector.get_eq_getElem, Vector.getElem_set, Fin.ext_iff]

@[simp] theorem setAt_get_self {α : Type} {n : Nat} (v : Vector α n) (i : Fin n) (x : α) : (setAt v i x).get i = x := by
  simp [setAt_get]

theorem setAt_get_of_ne {α : Type} {n : Nat} (v : Vector α n) {i j : Fin n} (x : α) (h : i ≠ j) :
    (setAt v i x).get j = v.get j := by
  simp [setAt_get, h]

@[simp] theorem ofFn_get {α : Type} {n : Nat} (f : Fin n → α) (i : Fin n) : (Vector.ofFn f).get i = f i := by
  simp [Vector.get_eq_getElem]

/-- Two tables with the same entries are the same. -/
theorem table_ext {α : Type} {n : Nat} {v w : Vector α n} (h : ∀ i, v.get i = w.get i) : v = w := by
  apply Vector.ext
  intro i hi
  exact h ⟨i, hi⟩

@[simp] theorem finOf_val {n : Nat} (i : Fin n) : finOf n i.val = some i := by
  simp [finOf]

theorem finOf_of_eq {n x : Nat} {i : Fin n} (h : x = i.val) : finOf n x = some i := by
  subst h
  exact finOf_val i

theorem finOf_of_le {n x : Nat} (h : n ≤ x) : finOf n x = none := by
  simp [finOf, Nat.not_lt.mpr h]

/-- Counting one event moves one counter, and it by one or, at the top, not at all. -/
theorem bump_counter (n m : Fin 10) (s : State) :
    (bump n s).counters.get m = if n = m then satInc (s.counters.get n) else s.counters.get m := by
  simp only [bump, State.withCounters, setAt_get]

@[simp] theorem bump_phase (n : Fin 10) (s : State) : (bump n s).phase = s.phase := rfl
@[simp] theorem bump_resetPinLow (n : Fin 10) (s : State) : (bump n s).resetPinLow = s.resetPinLow := rfl
@[simp] theorem bump_port (n : Fin 10) (s : State) : (bump n s).port = s.port := rfl
@[simp] theorem bump_node (n : Fin 10) (s : State) : (bump n s).node = s.node := rfl
@[simp] theorem bump_map (n : Fin 10) (s : State) : (bump n s).map = s.map := rfl
@[simp] theorem bump_queue (n : Fin 10) (s : State) : (bump n s).queue = s.queue := rfl
@[simp] theorem bump_lines (n : Fin 10) (s : State) : (bump n s).lines = s.lines := rfl
@[simp] theorem bump_scanner (n : Fin 10) (s : State) : (bump n s).scanner = s.scanner := rfl
@[simp] theorem bump_contacts (n : Fin 10) (s : State) : (bump n s).contacts = s.contacts := rfl
@[simp] theorem bump_engine (n : Fin 10) (s : State) : (bump n s).engine = s.engine := rfl
@[simp] theorem bump_agent (n : Fin 10) (s : State) : (bump n s).agent = s.agent := rfl
@[simp] theorem bump_freeIndex (n : Fin 10) (s : State) : (bump n s).freeIndex = s.freeIndex := rfl
@[simp] theorem bump_pending (n : Fin 10) (s : State) : (bump n s).pending = s.pending := rfl

theorem whenOperating_of {f : State → State} {s : State} (h : s.phase = .operating) : whenOperating f s = f s := by
  simp [whenOperating, h]

theorem whenOperating_of_not {f : State → State} {s : State} (h : s.phase ≠ .operating) : whenOperating f s = s := by
  simp [whenOperating, h]

/-- A count saturates at its highest value and else rises by one. -/
theorem satInc_toNat {w : Nat} (x : BitVec w) : (satInc x).toNat = min (x.toNat + 1) (2 ^ w - 1) := by
  unfold satInc
  split
  · rename_i h
    subst h
    simp
  · rename_i h
    have hx : x.toNat ≠ 2 ^ w - 1 := by
      intro e
      apply h
      apply BitVec.eq_of_toNat_eq
      simpa using e
    have hl : x.toNat < 2 ^ w := x.isLt
    have h1 : 1 % 2 ^ w = 1 ∨ w = 0 := by
      rcases Nat.eq_zero_or_pos w with h0 | h0
      · exact Or.inr h0
      · exact Or.inl (Nat.mod_eq_of_lt (Nat.one_lt_two_pow (by omega)))
    rcases h1 with h1 | h1
    · have ho : (1 : BitVec w).toNat = 1 := by simpa using h1
      rw [BitVec.toNat_add, ho, Nat.mod_eq_of_lt (by omega)]
      omega
    · subst h1
      omega

end Sys2Proof.Machine
end

