-- ==== Sys2Proof/Laws/Channels.lean ====
section
/-! SUPPORT. What a drive, a start and an advance make of a channel, said once. -/

namespace Sys2Proof.Machine

theorem driveLevel_one (c : Channel) (b : Byte) : c.driveLevel (.one b) = c.steadyAt b := rfl

theorem driveLevel_two_zero (c : Channel) (b : Byte) : c.driveLevel (.two b 0) = c.steadyAt b := rfl

theorem driveLevel_glide (c : Channel) (b : Byte) {ticks : Byte} (h : ticks ≠ 0) :
    c.driveLevel (.two b ticks) = { c with motion := .gliding c.level b ticks 0 } := by
  simp only [Channel.driveLevel, if_neg h]

/-- A LEVEL drive moves its channel alone (R147). -/
theorem drive_level (e : Engine) (ch : Fin 16) (v : TakeValue) :
    e.drive ch .level v = some { e with channels := setAt e.channels ch ((e.channels.get ch).driveLevel v) } := rfl

/-- An EFFECT drive of a good selector moves its channel alone (R45, R148). -/
theorem drive_effect {e : Engine} {v : TakeValue} (ch : Fin 16) (h : goodSelector v.first = true) :
    e.drive ch .effect v = some { e with channels := setAt e.channels ch (e.driveEffect v (e.channels.get ch)) } := by
  simp [Engine.drive, h]

/-- An EFFECT drive of selector 32-254 is none (R45). -/
theorem drive_none {e : Engine} {v : TakeValue} (ch : Fin 16) (h : 32 ≤ v.first.toNat) (h' : v.first ≠ 255) :
    e.drive ch .effect v = none := by
  have : goodSelector v.first = false := by
    simp only [goodSelector, Bool.or_eq_false_iff, decide_eq_false_iff_not, not_lt]
    exact ⟨h, h'⟩
  simp [Engine.drive, this]

theorem startEffect_empty {e : Engine} {i : Fin 32} (override : Byte) (c : Channel) (h : (e.effects.get i).count = 0) :
    e.startEffect i override c = c.stopped := by
  simp only [Engine.startEffect, if_pos h]

theorem startEffect_run {e : Engine} {i : Fin 32} (override : Byte) (c : Channel) (h : (e.effects.get i).count ≠ 0) :
    e.startEffect i override c = e.beginSegment i 0 (startRuns (e.effects.get i).repeatCount override) c := by
  simp only [Engine.startEffect, if_neg h]

/-- No start, drive, advance or fallback mode of a channel touches what it falls back to. -/
theorem startEffect_fallback (e : Engine) (i : Fin 32) (override : Byte) (c : Channel) :
    (e.startEffect i override c).fallback = c.fallback := by
  unfold Engine.startEffect
  simp only
  split <;> rfl

/-- A channel's advance looks at the effect memory alone, not at the other channels (R138). -/
theorem advance_channels (e : Engine) (x : Vector Channel 16) (c : Channel) :
    ({ e with channels := x } : Engine).advance c = e.advance c := rfl

theorem segment_length_pos (g : Segment) : 1 ≤ g.length := by
  unfold Segment.length
  omega

end Sys2Proof.Machine
end

