-- ==== Sys2Proof/Laws/Queue.lean ====
section
/-! SUPPORT. What the report queue's operations can do, said once: each lemma names the parts of the state an operation may move, and
what it makes of the queue. -/

namespace Sys2Proof.Machine

/-! ## Enqueue -/

/-- The queue after an enqueue, appended to or after a discard (R62, R64). -/
def Queue.after (q : Queue) (b : ReportBody) : Queue :=
  if q.hasRoom then q.append b else { q with lost := satInc q.lost }.handleOverrun

/-- An enqueue moves the queue, and counter 6 where the report is discarded; nothing else (R62, R64). -/
theorem enqueueOnly_eq (b : ReportBody) (s : State) :
    enqueueOnly b s =
      { s with
        queue := s.queue.after b
        counters := if s.queue.hasRoom then s.counters
          else setAt s.counters ctrLostReports (satInc (s.counters.get ctrLostReports)) } := by
  unfold enqueueOnly enqueue Queue.after
  cases s.queue.hasRoom <;> rfl

theorem enqueue_appended (b : ReportBody) {s : State} (h : s.queue.ordinaryCount < 31) :
    enqueue b s = (s.withQueue (s.queue.append b), true) := by
  simp [enqueue, Queue.hasRoom, h]

theorem enqueue_discarded (b : ReportBody) {s : State} (h : 31 ≤ s.queue.ordinaryCount) :
    enqueue b s = (discardReport s, false) := by
  simp [enqueue, Queue.hasRoom, Nat.not_lt.mpr h]

/-! ## Go-back and the frame event -/

/-- A go-back leaves every report's number, body, cycle, ever-sent flag and retry count (R79). -/
theorem goBack_keeps (r : Report) :
    r.goBack.seq = r.seq ∧ r.goBack.body = r.body ∧ r.goBack.cycle = r.cycle ∧ r.goBack.everSent = r.everSent ∧
      r.goBack.retries = r.retries ∧ r.goBack.status = .waiting := ⟨rfl, rfl, rfl, rfl, rfl, rfl⟩

@[simp] theorem goBack_sentCount (q : Queue) : q.goBack.sentCount = 0 := by
  simp [Queue.sentCount, Queue.goBack, Report.goBack]

/-- When this frame event's increment takes the ack timer to Rt (R76, R77). -/
theorem timeoutDue_iff (s : State) :
    timeoutDue s = true ↔
      s.node.state = .running ∧ 0 < s.queue.sentCount ∧ s.queue.retryInterval.toNat ≤ s.queue.ackTimer.getD 0 + 1 := by
  simp only [timeoutDue, ackTimerRuns, Bool.and_eq_true, decide_eq_true_eq, and_assoc]
  rfl

/-- The queue's part of a frame event moves the queue and nothing else (R76, R77). -/
theorem queueFrameEvent_eq (s : State) : queueFrameEvent s = { s with queue := (queueFrameEvent s).queue } := by
  unfold queueFrameEvent
  split
  · rfl
  · split <;> rfl

/-- The slot map's part of a frame event: nothing, or the commit and its notice (R53, R54). -/
theorem mapFrameEvent_of_pending {s : State} (h : s.map.commitPending = true) :
    mapFrameEvent s = enqueueOnly .commitDone (s.withMap s.map.commit) := by
  simp [mapFrameEvent, h]

theorem mapFrameEvent_of_not {s : State} (h : s.map.commitPending = false) : mapFrameEvent s = s := by
  simp [mapFrameEvent, h]

/-- The slot map's part moves the map, the queue and counter 6 (R53, R54). -/
theorem mapFrameEvent_eq (s : State) :
    mapFrameEvent s =
      { s with map := (mapFrameEvent s).map, queue := (mapFrameEvent s).queue, counters := (mapFrameEvent s).counters } := by
  cases h : s.map.commitPending
  · rw [mapFrameEvent_of_not h]
  · rw [mapFrameEvent_of_pending h, enqueueOnly_eq]
    rfl

/-- The two parts of a frame event do not look at the loop port. -/
theorem queueFrameEvent_withPort (s : State) (p : Port) :
    queueFrameEvent (s.withPort p) = (queueFrameEvent s).withPort p := by
  unfold queueFrameEvent
  have h1 : timeoutDue (s.withPort p) = timeoutDue s := rfl
  have h2 : ackTimerRuns (s.withPort p) = ackTimerRuns s := rfl
  rw [h1, h2]
  split
  · rfl
  · split <;> rfl

theorem enqueueOnly_withPort (b : ReportBody) (s : State) (p : Port) :
    enqueueOnly b (s.withPort p) = (enqueueOnly b s).withPort p := by
  rw [enqueueOnly_eq, enqueueOnly_eq]
  rfl

theorem mapFrameEvent_withPort (s : State) (p : Port) : mapFrameEvent (s.withPort p) = (mapFrameEvent s).withPort p := by
  cases h : s.map.commitPending
  · rw [mapFrameEvent_of_not h, mapFrameEvent_of_not (s := s.withPort p) h]
  · rw [mapFrameEvent_of_pending h, mapFrameEvent_of_pending (s := s.withPort p) h, ← enqueueOnly_withPort]
    rfl

theorem frameEvent_withPort (s : State) (p : Port) : frameEvent (s.withPort p) = (frameEvent s).withPort p := by
  unfold frameEvent
  have h1 : (s.withPort p).map.commitPending = s.map.commitPending := rfl
  have h2 : timeoutDue (s.withPort p) = timeoutDue s := rfl
  have h3 : tookChoice (s.withPort p) = (tookChoice s).withPort p := rfl
  have h4 : (s.withPort p).freeIndex = s.freeIndex := rfl
  rw [h1, h2, h3, h4]
  simp only [mapFrameEvent_withPort, queueFrameEvent_withPort]
  split
  · split <;> rfl
  · rfl

/-! ## Offering -/

/-- The oldest WAITING report: what lies before it in the queue is SENT (R69). -/
theorem oldestWaiting?_some {q : Queue} {r : Report} (h : q.oldestWaiting? = some r) :
    ∃ older newer, q.reports = older ++ r :: newer ∧ (∀ x ∈ older, x.status = .sent) ∧ r.status = .waiting := by
  obtain ⟨hr, older, newer, heq, hold⟩ := List.find?_eq_some_iff_append.mp h
  refine ⟨older, newer, heq, fun x hx => ?_, of_decide_eq_true hr⟩
  have hw : ¬x.status = .waiting := by simpa using hold x hx
  cases hs : x.status with
  | waiting => exact absurd hs hw
  | sent => rfl

/-! ## Acknowledgement -/

/-- A split found: the reports are those removed, the last of them named, and those left (R73). -/
theorem splitAtAck_some {seq : Byte} {rs gone left : List Report} (h : splitAtAck seq rs = some (gone, left)) :
    ∃ older r, gone = older ++ [r] ∧ rs = older ++ r :: left ∧ r.acknowledgedBy seq = true ∧
      ∀ x ∈ older, x.acknowledgedBy seq = false := by
  induction rs generalizing gone with
  | nil => simp [splitAtAck] at h
  | cons y ys ih =>
    unfold splitAtAck at h
    split at h
    · rename_i hy
      obtain ⟨rfl, rfl⟩ := Prod.mk.inj (Option.some.inj h)
      exact ⟨[], y, rfl, rfl, hy, by simp⟩
    · rename_i hy
      split at h
      · rename_i g l hs
        obtain ⟨rfl, rfl⟩ := Prod.mk.inj (Option.some.inj h)
        obtain ⟨older, r, rfl, rfl, hr, ho⟩ := ih hs
        refine ⟨y :: older, r, rfl, rfl, hr, ?_⟩
        simpa [hy] using ho
      · cases h

/-- No split: no report is named, and the acknowledgement is stray (R74). -/
theorem splitAtAck_none {seq : Byte} {rs : List Report} (h : ∀ x ∈ rs, x.acknowledgedBy seq = false) :
    splitAtAck seq rs = none := by
  induction rs with
  | nil => rfl
  | cons y ys ih =>
    unfold splitAtAck
    rw [if_neg (by simp [h y]), ih (fun x hx => h x (by simp [hx]))]

/-- The split at the first report named. -/
theorem splitAtAck_mid {seq : Byte} {older left : List Report} {r : Report} (hr : r.acknowledgedBy seq = true)
    (ho : ∀ x ∈ older, x.acknowledgedBy seq = false) :
    splitAtAck seq (older ++ r :: left) = some (older ++ [r], left) := by
  induction older with
  | nil => simp [splitAtAck, hr]
  | cons y ys ih =>
    rw [List.cons_append]
    unfold splitAtAck
    rw [if_neg (by simp [ho y]), ih (fun x hx => ho x (by simp [hx]))]
    rfl

/-! ## The contacts' reports -/

/-- A CONTACT enqueue moves the queue, the contacts and counter 6 (R124, R125). -/
theorem enqueueContact_eq (i : Fin 8) (active level : Bool) (s : State) :
    enqueueContact i active level s =
      { s with
        queue := (enqueueContact i active level s).queue
        contacts := (enqueueContact i active level s).contacts
        counters := (enqueueContact i active level s).counters } := by
  unfold enqueueContact enqueue
  cases s.queue.hasRoom <;> rfl

/-- One removal moves the queue, the contacts and counter 6 (R126). -/
theorem contactRemoval_eq (i : Fin 8) (s : State) :
    contactRemoval i s =
      { s with
        queue := (contactRemoval i s).queue
        contacts := (contactRemoval i s).contacts
        counters := (contactRemoval i s).counters } := by
  unfold contactRemoval
  simp only
  split
  · rw [enqueueContact_eq]
    rfl
  · rfl

/-! ## The tick -/

/-- A channel's advance moves its channel, the queue and counter 6 (R138, R145). -/
theorem advanceChannel_eq (ch : Fin 16) (s : State) :
    advanceChannel ch s =
      { s with
        engine := { s.engine with
          channels := setAt s.engine.channels ch (s.engine.advance (s.engine.channels.get ch)).1 }
        queue := (advanceChannel ch s).queue
        counters := (advanceChannel ch s).counters } := by
  unfold advanceChannel
  split
  rename_i c ended h
  rw [h]
  cases ended
  · rfl
  · simp only [enqueueOnly_eq]
    rfl

end Sys2Proof.Machine
end

