-- ==== Sys2Proof/Laws/Headers.lean ====
section
/-! SUPPORT. What a header's arrival does, said once: how it is judged, and that a delivered one is the frame event of its kind; when the
frame event's own rows act; and what the mark timer's expiry moves. -/

namespace Sys2Proof.Machine

theorem judgeHeader_bad {h : HeaderBytes} (hb : h.check ≠ headerCheck h ∨ h.slots.toNat = 0 ∨ 48 < h.slots.toNat) :
    judgeHeader h = .bad := by
  unfold judgeHeader
  by_cases hc : h.check = headerCheck h
  · rw [if_neg (not_not_intro hc), if_pos (hb.resolve_left (not_not_intro hc))]
  · rw [if_pos hc]

theorem judgeHeader_unknown {h : HeaderBytes} (hd : deliverable h) (hk : FrameKind.ofCode h.kind = none) :
    judgeHeader h = .unknownKind := by
  unfold judgeHeader
  rw [if_neg (not_not_intro hd.1), if_neg (by omega), hk]

theorem judgeHeader_delivered {h : HeaderBytes} {k : FrameKind} (hd : deliverable h)
    (hk : FrameKind.ofCode h.kind = some k) : judgeHeader h = .delivered k := by
  unfold judgeHeader
  rw [if_neg (not_not_intro hd.1), if_neg (by omega), hk]

/-- A kind that is neither NORMAL nor ENUMERATE is none. -/
theorem frameKind_ofCode_none {c : Byte} (h1 : c ≠ 0x01) (h2 : c ≠ 0x02) : FrameKind.ofCode c = none := by
  unfold FrameKind.ofCode
  rw [if_neg h1, if_neg h2]

/-- An awaited header, by its judgement (R2). -/
theorem execHeaderArrival_awaits {s : State} (ha : s.awaitsHeader) (h : HeaderBytes) :
    execHeaderArrival h s =
      .next (match judgeHeader h with
        | .bad => sendOn (.header h) (setFrame (.slots h.slots 0 none) (badHeader s))
        | .unknownKind => sendOn (.header h) (setFrame (.slots h.slots 0 none) (goodHeader (bump ctrUnknownKinds s)))
        | .delivered k => deliverHeader k h s) := by
  obtain ⟨⟨hp, hr⟩, hf⟩ := ha
  have hs : settleReset s = s := by simp [settleReset, hr]
  simp only [execHeaderArrival]
  rw [whenOperating_of hp, hs]
  cases hj : judgeHeader h <;> simp only [headerArrives, hf, hj]

/-- A delivered header is handed to the node controller and the queue as its kind says (R2, R20). -/
theorem execHeaderArrival_delivered {s : State} {h : HeaderBytes} {k : FrameKind} (ha : s.awaitsHeader)
    (hd : deliverable h) (hk : FrameKind.ofCode h.kind = some k) :
    execHeaderArrival h s = .next (deliverHeader k h s) := by
  rw [execHeaderArrival_awaits ha, judgeHeader_delivered hd hk]

/-! ## The node controller -/

/-- Leaving a state moves the node controller's timers and, from RUNNING and FALLBACK, gives the queue its go-back (R23). -/
theorem leaveLoop_eq (s : State) :
    leaveLoop s = { s with node := s.node.leave, queue := queueOnLeaving s.node s.queue } := by
  unfold leaveLoop queueOnLeaving NodeCtl.leave
  cases s.node.state <;> rfl

theorem becomeUnaddressed_eq (s : State) :
    becomeUnaddressed s =
      { s with
        node := { s.node.leave with state := .unaddressed, position := none, epoch := none }
        queue := queueOnLeaving s.node s.queue } := by
  unfold becomeUnaddressed
  rw [leaveLoop_eq]
  rfl

theorem becomeReady_eq (position epoch : Byte) (s : State) :
    becomeReady position epoch s =
      { s with
        node := { s.node.leave with state := .ready, position := some position, epoch := some epoch }
        queue := queueOnLeaving s.node s.queue } := by
  unfold becomeReady
  rw [leaveLoop_eq]
  rfl

/-! ## The frame event's own rows -/

/-- When a frame event is in hand: before the first slot of a delivered NORMAL frame, in READY or RUNNING (R20, R53). -/
theorem atFrameEvent_iff (s : State) :
    atFrameEvent s = true ↔
      (∃ count, s.port.frame = .slots count 0 (some .normal)) ∧ (s.node.state = .ready ∨ s.node.state = .running) := by
  unfold atFrameEvent
  split
  · rename_i count hf
    rw [Bool.or_eq_true, decide_eq_true_iff, decide_eq_true_iff]
    exact ⟨fun h => ⟨⟨count, hf⟩, h⟩, fun h => h.2⟩
  · rename_i hf
    refine ⟨fun h => Bool.noConfusion h, ?_⟩
    rintro ⟨⟨count, hc⟩, _⟩
    exact absurd hc (hf count)

/-- When a timeout is still to be made: RUNNING, a report SENT, and the ack timer at Rt or above (R76, R77). -/
theorem timeoutReached_iff (q : Queue) (st : NodeState) :
    q.timeoutReached st = true ↔ st = .running ∧ 0 < q.sentCount ∧ q.retryInterval.toNat ≤ q.ackTimer.getD 0 := by
  unfold Queue.timeoutReached
  rw [Bool.and_eq_true, Bool.and_eq_true, decide_eq_true_iff, decide_eq_true_iff, decide_eq_true_iff, and_assoc]

/-! ## The mark timer -/

/-- A mark timer that rests, expired, does not expire again (R12). -/
theorem markTimerExpires_rests {s : State} (h : markLimit ≤ s.port.markTimer) : markTimerExpires s = s := by
  unfold markTimerExpires
  rw [if_pos h]

/-- An expiry moves the port alone (R12, R13). -/
theorem markTimerExpires_eq (s : State) : markTimerExpires s = { s with port := (markTimerExpires s).port } := by
  unfold markTimerExpires
  split
  · rfl
  · split <;> rfl

end Sys2Proof.Machine
end

