-- ==== Sys2Proof/Laws/Lines.lean ====
section
/-! SUPPORT. What the line map's operations can do, said once: the level a pin is sensed at by what it does, what a repeat, a gap and
a matrix line are, and the four outcomes of validation. -/

namespace Sys2Proof.Machine

/-! ## The lowest index with a property -/

/-- The first hit over all indices is the lowest one. -/
theorem find?_finRange {n : Nat} {p : Fin n → Bool} {i : Fin n} :
    (List.finRange n).find? p = some i ↔ p i = true ∧ ∀ j < i, p j = false := by
  rw [List.find?_eq_some_iff_getElem]
  constructor
  · rintro ⟨hp, k, hk, hi, hj⟩
    refine ⟨hp, fun j hji => ?_⟩
    simp only [List.getElem_finRange] at hi
    subst hi
    simpa using hj j.val (by simpa [Fin.lt_def] using hji)
  · rintro ⟨hp, hj⟩
    exact ⟨hp, i.val, by simp, by simp, fun j hji => by simpa using hj ⟨j, by omega⟩ hji⟩

/-- Without a hit, no index has the property. -/
theorem find?_finRange_none {n : Nat} {p : Fin n → Bool} : (List.finRange n).find? p = none ↔ ∀ i, p i = false := by
  simp [List.find?_eq_none]

/-! ## The sensed level (R89, R90, R95) -/

theorem sensedHigh_of_high {s : State} {l : Line} {v : PinView} (h : pinDrive s l v.pwmStep = .high) :
    sensedHigh s l v = true := by simp only [sensedHigh, h]

theorem sensedHigh_of_low {s : State} {l : Line} {v : PinView} (h : pinDrive s l v.pwmStep = .low) :
    sensedHigh s l v = false := by simp only [sensedHigh, h]

theorem sensedHigh_of_pullUp {s : State} {l : Line} {v : PinView} (h : pinDrive s l v.pwmStep = .pullUp) :
    sensedHigh s l v = if v.held.getLsbD l.val then v.level.getLsbD l.val else true := by simp only [sensedHigh, h]

theorem sensedHigh_of_pullDown {s : State} {l : Line} {v : PinView} (h : pinDrive s l v.pwmStep = .pullDown) :
    sensedHigh s l v = if v.held.getLsbD l.val then v.level.getLsbD l.val else false := by simp only [sensedHigh, h]

theorem sensedHigh_of_highZ {s : State} {l : Line} {v : PinView} (h : pinDrive s l v.pwmStep = .highZ) :
    sensedHigh s l v = v.level.getLsbD l.val := by simp only [sensedHigh, h]

/-! ## Repeats, gaps and matrix lines (R96, R97) -/

/-- Two entries have the same judged function and index (R96). -/
theorem sameUse_iff (x y : LineEntry) : sameUse x y = true ↔
    (∃ i, x = .row i ∧ y = .row i) ∨ (∃ i, x = .column i ∧ y = .column i) ∨
      (∃ i p q p' q', x = .contact i p q ∧ y = .contact i p' q') := by
  cases x <;> cases y <;> simp [sameUse, eq_comm]

theorem isRepeat_iff (t : LineTable) (l : Line) :
    isRepeat t l = true ↔ ∃ m < l, sameUse (t.get m) (t.get l) = true := by
  simp [isRepeat]

theorem isGap_iff (t : LineTable) (l : Line) : isGap t l = true ↔
    (∃ i : Fin 8, t.get l = .row i ∧ rowCount t ≤ i.val) ∨ (∃ i : Fin 8, t.get l = .column i ∧ columnCount t ≤ i.val) := by
  unfold isGap
  cases t.get l <;> simp

theorem isMatrixLine_iff (t : LineTable) (l : Line) :
    isMatrixLine t l = true ↔ (∃ i, t.get l = .row i) ∨ (∃ i, t.get l = .column i) := by
  unfold isMatrixLine
  cases t.get l <;> simp

/-- R is above 0 exactly when some line is a ROW. -/
theorem rowCount_pos (t : LineTable) : 0 < rowCount t ↔ ∃ l i, t.get l = .row i := by
  rw [rowCount, List.length_pos_iff_exists_mem]
  simp only [List.mem_filter, List.mem_finRange, true_and]
  refine exists_congr fun l => ?_
  cases t.get l <;> simp

/-- C is above 0 exactly when some line is a COLUMN. -/
theorem columnCount_pos (t : LineTable) : 0 < columnCount t ↔ ∃ l i, t.get l = .column i := by
  rw [columnCount, List.length_pos_iff_exists_mem]
  simp only [List.mem_filter, List.mem_finRange, true_and]
  refine exists_congr fun l => ?_
  cases t.get l <;> simp

/-- With no repeat, two lines of the same use are one line (R96). -/
theorem unique_of_no_repeat {t : LineTable} (h : ∀ l, isRepeat t l = false) {l m : Line}
    (hm : sameUse (t.get m) (t.get l) = true) (hl : sameUse (t.get l) (t.get m) = true) : l = m := by
  rcases lt_trichotomy m l with h' | h' | h'
  · exact absurd ((isRepeat_iff t l).mpr ⟨m, h', hm⟩) (by simp [h l])
  · exact h'.symm
  · exact absurd ((isRepeat_iff t m).mpr ⟨l, h', hl⟩) (by simp [h m])

/-! ## Validation (R96 to R98) -/

/-- Everything validation can answer, with what holds then (R96 to R98). -/
theorem validate_cases (t : LineTable) :
    (∃ l, validate t = some (.duplicateLine, l) ∧ isRepeat t l = true ∧ ∀ m < l, isRepeat t m = false) ∨
    (∃ l, validate t = some (.gap, l) ∧ (∀ m, isRepeat t m = false) ∧ isGap t l = true ∧ ∀ m < l, isGap t m = false) ∨
    (∃ l, validate t = some (.halfMatrix, l) ∧ (∀ m, isRepeat t m = false) ∧ (∀ m, isGap t m = false) ∧
      (rowCount t = 0 ∨ columnCount t = 0) ∧ isMatrixLine t l = true ∧ ∀ m < l, isMatrixLine t m = false) ∨
    (validate t = none ∧ (∀ m, isRepeat t m = false) ∧ (∀ m, isGap t m = false) ∧
      (rowCount t = 0 ↔ columnCount t = 0)) := by
  unfold validate
  cases h1 : (List.finRange 24).find? (isRepeat t) with
  | some l => exact .inl ⟨l, rfl, find?_finRange.mp h1⟩
  | none =>
    rw [find?_finRange_none] at h1
    cases h2 : (List.finRange 24).find? (isGap t) with
    | some l => exact .inr (.inl ⟨l, rfl, h1, find?_finRange.mp h2⟩)
    | none =>
      rw [find?_finRange_none] at h2
      dsimp only
      split
      · rename_i h3
        cases h4 : (List.finRange 24).find? (isMatrixLine t) with
        | some l => exact .inr (.inr (.inl ⟨l, rfl, h1, h2, h3, find?_finRange.mp h4⟩))
        | none =>
          rw [find?_finRange_none] at h4
          have noRow : ¬0 < rowCount t := by
            rw [rowCount_pos]
            rintro ⟨l, i, h⟩
            exact absurd ((isMatrixLine_iff t l).mpr (.inl ⟨i, h⟩)) (by simp [h4 l])
          have noColumn : ¬0 < columnCount t := by
            rw [columnCount_pos]
            rintro ⟨l, i, h⟩
            exact absurd ((isMatrixLine_iff t l).mpr (.inr ⟨i, h⟩)) (by simp [h4 l])
          exact .inr (.inr (.inr ⟨rfl, h1, h2, by omega⟩))
      · exact .inr (.inr (.inr ⟨rfl, h1, h2, by omega⟩))

/-- What a map that passes has: no repeat, no gap, and both or neither of rows and columns (R98). -/
theorem validate_none {t : LineTable} (h : validate t = none) :
    (∀ m, isRepeat t m = false) ∧ (∀ m, isGap t m = false) ∧ (rowCount t = 0 ↔ columnCount t = 0) := by
  rcases validate_cases t with ⟨l, hv, -⟩ | ⟨l, hv, -⟩ | ⟨l, hv, -⟩ | ⟨-, hv⟩
  · simp [hv] at h
  · simp [hv] at h
  · simp [hv] at h
  · exact hv

end Sys2Proof.Machine
end

