-- ==== Sys2Proof/Laws/Slots.lean ====
section
/-! SUPPORT. What a slot's arrival does, said once: which slots are judged, what an addressed request answers, and what leaves the
node in the slot's place. -/

namespace Sys2Proof.Machine

/-! ## Before anything is judged -/

theorem settleReset_of {s : State} (h : s.node.resetDue = false) : settleReset s = s := by
  simp [settleReset, h]

/-- In a node that is awake, a part's handling is the handling itself. -/
theorem whenOperating_settled {f : State → State} {s : State} (h : s.awake) :
    whenOperating (fun s => f (settleReset s)) s = f s := by
  rw [whenOperating_of h.1, settleReset_of h.2]

/-! ## The next slot of a delivered frame -/

/-- The next slot of a delivered frame is judged, and what the judgement gives is sent on. -/
theorem slotArrives_of_frame {s : State} {kind : FrameKind} {count : Byte} {index : Nat}
    (hf : s.port.frame = .slots count index (some kind)) (hi : index < count.toNat) (b : SlotBytes)
    (judge : FrameKind → Nat → State → SlotResult) :
    slotArrives b judge s =
      (judge kind index s).1.slotSent kind count index ((judge kind index s).2.getD b) := by
  simp only [slotArrives, hf, hi, if_true]
  rfl

/-- A slot of a frame that is not delivered is counted and repeated (R1). -/
theorem slotArrives_undelivered {s : State} {count : Byte} {index : Nat} (hf : s.port.frame = .slots count index none)
    (hi : index < count.toNat) (b : SlotBytes) (judge : FrameKind → Nat → State → SlotResult) :
    slotArrives b judge s = sendOn (.slot b) (setFrame (.slots count (index + 1) none) s) := by
  unfold slotArrives
  rw [hf]
  exact if_pos hi

/-- Bytes past the S-th slot are repeated (R5). -/
theorem slotArrives_past {s : State} {count : Byte} {index : Nat} {kind : Option FrameKind}
    (hf : s.port.frame = .slots count index kind) (hi : count.toNat ≤ index) (b : SlotBytes)
    (judge : FrameKind → Nat → State → SlotResult) : slotArrives b judge s = sendOn (.slot b) s := by
  unfold slotArrives
  rw [hf]
  cases kind <;> exact if_neg (Nat.not_lt.mpr hi)

/-- Bytes that are in no slot are repeated (R1). -/
theorem slotArrives_outside {s : State} (hf : s.port.frame = .noFrame ∨ s.port.frame = .header) (b : SlotBytes)
    (judge : FrameKind → Nat → State → SlotResult) : slotArrives b judge s = sendOn (.slot b) s := by
  unfold slotArrives
  rcases hf with hf | hf <;> rw [hf]

/-- Bytes given as a header where none is awaited are repeated (R1). -/
theorem headerArrives_outside {s : State} (hf : s.port.frame ≠ .header) (h : HeaderBytes) :
    headerArrives h s = sendOn (.header h) s := by
  unfold headerArrives
  cases hh : s.port.frame with
  | header => exact absurd hh hf
  | noFrame => rfl
  | slots _ _ _ => rfl

theorem execSlotArrival_awaits {s : State} {kind : FrameKind} {count : Byte} {index : Nat}
    (h : s.awaitsSlot kind count index) (b : SlotBytes) (v : PinView) :
    execSlotArrival b v s =
      .next ((judgeSlot b v kind index s).1.slotSent kind count index ((judgeSlot b v kind index s).2.getD b)) := by
  simp only [execSlotArrival]
  rw [whenOperating_settled h.1, slotArrives_of_frame h.2.1 h.2.2]

theorem requestCommand_awaits {s : State} {kind : FrameKind} {count : Byte} {index : Nat}
    (h : s.awaitsSlot kind count index) (tag token : Byte) (r : Request) (v : PinView) (a : Args) :
    requestCommand tag token r v a s =
      (requestArrives tag token r v a kind s).1.slotSent kind count index
        ((requestArrives tag token r v a kind s).2.getD (requestSlot tag token r.code a)) := by
  simp only [requestCommand]
  rw [whenOperating_settled h.1, slotArrives_of_frame h.2.1 h.2.2]

/-! ## Addressed requests -/

/-- A request that does not match the cache finds nothing there. -/
theorem cacheHit_of_fresh {s : State} {token code : Byte} {a : Args} (h : s.fresh token code a) :
    cacheHit s token code a = none := by
  unfold cacheHit
  split
  · rename_i e he
    rcases h with h | h
    · simp [h]
    · have := h e he
      simp only [CacheEntry.matches, Bool.and_eq_true, decide_eq_true_eq]
      rw [if_neg]
      rintro ⟨_, ⟨h1, h2⟩, h3⟩
      exact this ⟨h1, h2, h3⟩
  · rfl

theorem mgmtSlot_of_serves {s : State} {tag count : Byte} {index : Nat} (h : s.serves tag count index) (token : Byte)
    (r : Request) (v : PinView) (a : Args) : mgmtSlot tag token r v a s = addressed tag token r v a s := by
  obtain ⟨_, hp, ht, hs⟩ := h
  have hb : tag ≠ broadcastTag := ht
  simp only [mgmtSlot, hb, hp, if_false, if_true]
  rcases hs with hs | hs <;> simp only [hs]

/-- A request that is taken: the owning block's state, with the reply in the slot and the cache entry made. -/
theorem requestCommand_taken {s t : State} {tag count : Byte} {index : Nat} {token : Byte} {r : Request} {v : PinView}
    {a : Args} {st : Status} {d : ReplyData} (h : s.serves tag count index) (hf : s.fresh token r.code a)
    (hv : serve r v a s = .taken st d t) :
    requestCommand tag token r v a s = t.replied count index tag token r.code a st d := by
  rw [requestCommand_awaits h.1]
  simp only [requestArrives, mgmtSlot_of_serves h, addressed, cacheHit_of_fresh hf, hv, Option.getD_some]
  rfl

/-- A request that is refused: counter 8 and the refusal in the slot. -/
theorem requestCommand_refused {s : State} {tag count : Byte} {index : Nat} {token : Byte} {r : Request} {v : PinView}
    {a : Args} {st : Status} {d : ReplyData} (h : s.serves tag count index) (hf : s.fresh token r.code a)
    (hv : serve r v a s = .refused st d) :
    requestCommand tag token r v a s = s.refusal count index tag token st d := by
  rw [requestCommand_awaits h.1]
  simp only [requestArrives, mgmtSlot_of_serves h, addressed, cacheHit_of_fresh hf, hv, Option.getD_some]
  rfl

/-- A slot the node makes has a good check (R8, R192). -/
theorem makeSlot_good (k : SlotKind) (tag : Byte) (p : Payload) : goodSlot (makeSlot k tag p) := rfl

/-! ## Judging a slot -/

theorem judgeSlot_bad {b : SlotBytes} (h : ¬goodSlot b) (v : PinView) (kind : FrameKind) (index : Nat) (s : State) :
    judgeSlot b v kind index s = (bump ctrSlotErrors s, none) := by
  unfold judgeSlot
  exact if_pos h

theorem judgeSlot_unknown {b : SlotBytes} (h : goodSlot b) (hk : SlotKind.ofCode b.kind = none) (v : PinView)
    (kind : FrameKind) (index : Nat) (s : State) : judgeSlot b v kind index s = (bump ctrUnknownKinds s, none) := by
  unfold judgeSlot
  rw [if_neg (not_not_intro h), hk]

theorem judgeSlot_normal {b : SlotBytes} {k : SlotKind} (h : goodSlot b) (hk : SlotKind.ofCode b.kind = some k)
    (v : PinView) (index : Nat) (s : State) : judgeSlot b v .normal index s = dispatchSlot k index b v s := by
  unfold judgeSlot
  rw [if_neg (not_not_intro h), hk]

theorem judgeSlot_enumerate {b : SlotBytes} {k : SlotKind} (h : goodSlot b) (hk : SlotKind.ofCode b.kind = some k)
    (v : PinView) (index : Nat) (s : State) : judgeSlot b v .enumerate index s = (s, none) := by
  unfold judgeSlot
  rw [if_neg (not_not_intro h), hk]

/-- A slot kind's code names that kind. -/
@[simp] theorem slotKind_ofCode_code (k : SlotKind) : SlotKind.ofCode k.code = some k := by
  cases k <;> rfl

/-- A code names a slot kind exactly when it is 0-5 (R3, R6). -/
theorem slotKind_ofCode_none {c : Byte} (h : 6 ≤ c.toNat) : SlotKind.ofCode c = none := by
  simp only [SlotKind.ofCode, List.find?_eq_none]
  intro k _ hk
  have hc : k.code = c := by simpa using hk
  subst hc
  cases k <;> simp [SlotKind.code] at h

/-! ## Request codes -/

/-- A known request's code names that request (10.4). -/
theorem request_ofCode_known : ∀ r ∈ Request.known, Request.ofCode r.code = r := by decide

/-- A code that no known request has names none (R168). -/
theorem request_ofCode_unknown {c : Byte} (h : isUnknownCode c = true) : Request.ofCode c = .unknown c := by
  simp only [isUnknownCode, List.all_eq_true] at h
  simp only [Request.ofCode]
  rw [List.find?_eq_none.mpr]
  · rfl
  · intro x hx
    simpa [bne] using h x hx

/-- Whatever a code names has that code. -/
theorem request_code_ofCode (c : Byte) : (Request.ofCode c).code = c := by
  by_cases hk : isUnknownCode c = true
  · rw [request_ofCode_unknown hk]
    rfl
  · simp only [isUnknownCode, Bool.not_eq_true, List.all_eq_false] at hk
    obtain ⟨x, hx, hxc⟩ := hk
    have hc : x.code = c := by simpa using hxc
    rw [← hc, request_ofCode_known x hx]

/-- Only LINE READ looks at the pins. -/
theorem serve_pins {r : Request} (h : r ≠ .lineRead) (v w : PinView) (a : Args) (s : State) :
    serve r v a s = serve r w a s := by
  cases r <;> first | rfl | exact absurd rfl h

end Sys2Proof.Machine
end

