-- ==== Sys2Proof/Laws/PerInstr.lean ====
section
/-! SUPPORT. What is said of every command as syntax, one lemma per constructor. -/

namespace Sys2Proof.Laws

/-- A well-formed command that carries a request carries one that its own code names: the code of 10.4 brings the request
back (R163, R168). -/
def RequestCodes.Statement (i : Instr) : Prop :=
  i.wellFormed = true → ∀ r, i.request? = some r → Request.ofCode r.code = r

theorem RequestCodes.known_request {i : Instr} {q : Request} (hq : q ∈ Request.known) (hi : i.request? = some q) :
    RequestCodes.Statement i := by
  intro _ r hr
  rw [hi] at hr
  cases hr
  exact Machine.request_ofCode_known q hq

theorem RequestCodes.no_request {i : Instr} (hi : i.request? = none) : RequestCodes.Statement i := by
  intro _ r hr
  rw [hi] at hr
  cases hr

theorem RequestCodes.powerOnReset : RequestCodes.Statement .powerOnReset :=
  RequestCodes.no_request rfl

theorem RequestCodes.pinReset (pulse : LowPulse) : RequestCodes.Statement (.pinReset pulse) :=
  RequestCodes.no_request rfl

theorem RequestCodes.resetReleased : RequestCodes.Statement .resetReleased :=
  RequestCodes.no_request rfl

theorem RequestCodes.startUpComplete : RequestCodes.Statement .startUpComplete :=
  RequestCodes.no_request rfl

theorem RequestCodes.startMark (tail : List Byte) : RequestCodes.Statement (.startMark tail) :=
  RequestCodes.no_request rfl

theorem RequestCodes.headerArrival (h : HeaderBytes) : RequestCodes.Statement (.headerArrival h) :=
  RequestCodes.no_request rfl

theorem RequestCodes.timeoutGoBack : RequestCodes.Statement .timeoutGoBack :=
  RequestCodes.no_request rfl

theorem RequestCodes.commitCarriedOut : RequestCodes.Statement .commitCarriedOut :=
  RequestCodes.no_request rfl

theorem RequestCodes.slotArrival (b : SlotBytes) (v : PinView) : RequestCodes.Statement (.slotArrival b v) :=
  RequestCodes.no_request rfl

theorem RequestCodes.endMark (tail : List Byte) : RequestCodes.Statement (.endMark tail) :=
  RequestCodes.no_request rfl

theorem RequestCodes.markTimerExpiry : RequestCodes.Statement .markTimerExpiry :=
  RequestCodes.no_request rfl

theorem RequestCodes.silenceTimerExpiry : RequestCodes.Statement .silenceTimerExpiry :=
  RequestCodes.no_request rfl

theorem RequestCodes.outageTimerStep : RequestCodes.Statement .outageTimerStep :=
  RequestCodes.no_request rfl

theorem RequestCodes.passStart : RequestCodes.Statement .passStart :=
  RequestCodes.no_request rfl

theorem RequestCodes.columnSettled (v : PinView) : RequestCodes.Statement (.columnSettled v) :=
  RequestCodes.no_request rfl

theorem RequestCodes.passCompletion (v : PinView) : RequestCodes.Statement (.passCompletion v) :=
  RequestCodes.no_request rfl

theorem RequestCodes.indicatorTick : RequestCodes.Statement .indicatorTick :=
  RequestCodes.no_request rfl

theorem RequestCodes.glideEnd (ch : Fin 16) : RequestCodes.Statement (.glideEnd ch) :=
  RequestCodes.no_request rfl

theorem RequestCodes.segmentEnd (ch : Fin 16) : RequestCodes.Statement (.segmentEnd ch) :=
  RequestCodes.no_request rfl

theorem RequestCodes.pulseWidthPeriod : RequestCodes.Statement .pulseWidthPeriod :=
  RequestCodes.no_request rfl

theorem RequestCodes.info (tag token : Byte) (a : Args) : RequestCodes.Statement (.info tag token a) :=
  RequestCodes.known_request (by decide) rfl

theorem RequestCodes.status (tag token : Byte) (a : Args) : RequestCodes.Statement (.status tag token a) :=
  RequestCodes.known_request (by decide) rfl

theorem RequestCodes.counter (tag token : Byte) (a : Args) : RequestCodes.Statement (.counter tag token a) :=
  RequestCodes.known_request (by decide) rfl

theorem RequestCodes.nodeReset (tag token : Byte) (a : Args) : RequestCodes.Statement (.nodeReset tag token a) :=
  RequestCodes.known_request (by decide) rfl

theorem RequestCodes.nodeResetTakesPlace : RequestCodes.Statement .nodeResetTakesPlace :=
  RequestCodes.no_request rfl

theorem RequestCodes.blockReset (tag token : Byte) (a : Args) : RequestCodes.Statement (.blockReset tag token a) :=
  RequestCodes.known_request (by decide) rfl

theorem RequestCodes.loopSet (tag token : Byte) (a : Args) : RequestCodes.Statement (.loopSet tag token a) :=
  RequestCodes.known_request (by decide) rfl

theorem RequestCodes.loopGet (tag token : Byte) (a : Args) : RequestCodes.Statement (.loopGet tag token a) :=
  RequestCodes.known_request (by decide) rfl

theorem RequestCodes.start (tag token : Byte) (a : Args) : RequestCodes.Statement (.start tag token a) :=
  RequestCodes.known_request (by decide) rfl

theorem RequestCodes.stop (tag token : Byte) (a : Args) : RequestCodes.Statement (.stop tag token a) :=
  RequestCodes.known_request (by decide) rfl

theorem RequestCodes.mapWrite (tag token : Byte) (a : Args) : RequestCodes.Statement (.mapWrite tag token a) :=
  RequestCodes.known_request (by decide) rfl

theorem RequestCodes.mapRead (tag token : Byte) (a : Args) : RequestCodes.Statement (.mapRead tag token a) :=
  RequestCodes.known_request (by decide) rfl

theorem RequestCodes.mapCommit (tag token : Byte) (a : Args) : RequestCodes.Statement (.mapCommit tag token a) :=
  RequestCodes.known_request (by decide) rfl

theorem RequestCodes.resync (tag token : Byte) (a : Args) : RequestCodes.Statement (.resync tag token a) :=
  RequestCodes.known_request (by decide) rfl

theorem RequestCodes.flush (tag token : Byte) (a : Args) : RequestCodes.Statement (.flush tag token a) :=
  RequestCodes.known_request (by decide) rfl

theorem RequestCodes.lineWrite (tag token : Byte) (a : Args) : RequestCodes.Statement (.lineWrite tag token a) :=
  RequestCodes.known_request (by decide) rfl

theorem RequestCodes.lineRead (tag token : Byte) (a : Args) (v : PinView) : RequestCodes.Statement (.lineRead tag token a v) :=
  RequestCodes.known_request (by decide) rfl

theorem RequestCodes.scanSet (tag token : Byte) (a : Args) : RequestCodes.Statement (.scanSet tag token a) :=
  RequestCodes.known_request (by decide) rfl

theorem RequestCodes.scanGet (tag token : Byte) (a : Args) : RequestCodes.Statement (.scanGet tag token a) :=
  RequestCodes.known_request (by decide) rfl

theorem RequestCodes.keysRead (tag token : Byte) (a : Args) : RequestCodes.Statement (.keysRead tag token a) :=
  RequestCodes.known_request (by decide) rfl

theorem RequestCodes.contactsRead (tag token : Byte) (a : Args) : RequestCodes.Statement (.contactsRead tag token a) :=
  RequestCodes.known_request (by decide) rfl

theorem RequestCodes.effectWrite (tag token : Byte) (a : Args) : RequestCodes.Statement (.effectWrite tag token a) :=
  RequestCodes.known_request (by decide) rfl

theorem RequestCodes.effectRead (tag token : Byte) (a : Args) : RequestCodes.Statement (.effectRead tag token a) :=
  RequestCodes.known_request (by decide) rfl

theorem RequestCodes.segmentWrite (tag token : Byte) (a : Args) : RequestCodes.Statement (.segmentWrite tag token a) :=
  RequestCodes.known_request (by decide) rfl

theorem RequestCodes.segmentRead (tag token : Byte) (a : Args) : RequestCodes.Statement (.segmentRead tag token a) :=
  RequestCodes.known_request (by decide) rfl

theorem RequestCodes.channelSet (tag token : Byte) (a : Args) : RequestCodes.Statement (.channelSet tag token a) :=
  RequestCodes.known_request (by decide) rfl

theorem RequestCodes.channelGet (tag token : Byte) (a : Args) : RequestCodes.Statement (.channelGet tag token a) :=
  RequestCodes.known_request (by decide) rfl

theorem RequestCodes.channelDrive (tag token : Byte) (a : Args) : RequestCodes.Statement (.channelDrive tag token a) :=
  RequestCodes.known_request (by decide) rfl

theorem RequestCodes.unknownRequest (tag token code : Byte) (a : Args) :
    RequestCodes.Statement (.unknownRequest tag token code a) := by
  intro hw r hr
  cases hr
  exact Machine.request_ofCode_unknown hw

theorem RequestCodes.powerLoss : RequestCodes.Statement .powerLoss :=
  RequestCodes.no_request rfl

end Sys2Proof.Laws
end

