-- ==== Sys2Proof/Laws/Scanner.lean ====
section
/-! SUPPORT. What the scanner's operations can do, said once: which keys are held and ambiguous, one key's turn in a pass's
evaluation, and a contact's raw sample. -/

namespace Sys2Proof.Machine

/-- A key is held in DOWN and in RELEASE_PENDING (R101). -/
theorem isHeld_iff (x : KeyState) : x.isHeld = true ↔ x = .down ∨ ∃ n, x = .releasePending n := by
  cases x <;> simp [KeyState.isHeld]

/-- A key is ambiguous by a held key of its row and one of its column (R110). -/
theorem ambiguous_iff (keys : KeyTable) (k : Fin 64) : ambiguous keys k = true ↔
    (∃ j, j ≠ k ∧ keyRow j = keyRow k ∧ (keys.get j).isHeld = true) ∧
      (∃ j, j ≠ k ∧ keyColumn j = keyColumn k ∧ (keys.get j).isHeld = true) := by
  unfold ambiguous
  rw [Bool.and_eq_true, List.any_eq_true, List.any_eq_true]
  refine and_congr (exists_congr fun j => ?_) (exists_congr fun j => ?_) <;>
    rw [Bool.and_eq_true, Bool.and_eq_true, decide_eq_true_iff, decide_eq_true_iff] <;>
    simp only [List.mem_finRange, true_and, and_assoc]

theorem inMatrix_iff (R C : Nat) (k : Fin 64) : inMatrix R C k = true ↔ keyRow k < R ∧ keyColumn k < C := by
  unfold inMatrix
  rw [Bool.and_eq_true, decide_eq_true_iff, decide_eq_true_iff]

/-- One key's turn: evaluated if it lies in the matrix, else passed over (R107). -/
def evaluateNext (sc : Scanner) (closed : BitVec 64) (e : Evaluation) (k : Fin 64) : Evaluation :=
  if inMatrix sc.rowLines.length sc.columnLines.length k
  then evaluateKey sc.debounce.toNat (closed.getLsbD k.val) k e else e

/-- The evaluation of a pass when the keys below code `n` have had their turn (R112). -/
def evaluateBelow (sc : Scanner) (closed : BitVec 64) (n : Nat) : Evaluation :=
  ((List.finRange 64).take n).foldl (evaluateNext sc closed) { keys := sc.keys, reports := [] }

theorem evaluateBelow_zero (sc : Scanner) (closed : BitVec 64) :
    evaluateBelow sc closed 0 = { keys := sc.keys, reports := [] } := rfl

/-- Key `k` takes its turn after all keys below it (R112). -/
theorem evaluateBelow_succ (sc : Scanner) (closed : BitVec 64) (k : Fin 64) :
    evaluateBelow sc closed (k.val + 1) = evaluateNext sc closed (evaluateBelow sc closed k.val) k := by
  have h : (List.finRange 64).take (k.val + 1) = (List.finRange 64).take k.val ++ [k] := by
    rw [List.take_add_one]
    simp
  rw [evaluateBelow, h, List.foldl_append]
  rfl

/-- The evaluation of a pass is that of all 64 codes (R107). -/
theorem evaluateKeys_eq (sc : Scanner) (closed : BitVec 64) : evaluateKeys sc closed = evaluateBelow sc closed 64 := by
  rw [evaluateBelow, List.take_of_length_le (by simp)]
  rfl

/-- A raw sample by polarity (R90, R121). -/
theorem rawSample_of_line {s : State} {i : Fin 8} {l : Line} {q : Polarity} (h : s.scanner.contactLines.get i = some (l, q))
    (v : PinView) : rawSample v s i = (if q = .activeHigh then sensedHigh s l v else !sensedHigh s l v) := by
  cases hs : sensedHigh s l v <;> cases q <;> simp [rawSample, h, hs]

theorem rawSample_of_none {s : State} {i : Fin 8} (h : s.scanner.contactLines.get i = none) (v : PinView) :
    rawSample v s i = false := by
  simp [rawSample, h]

end Sys2Proof.Machine
end

