-- ==== Sys2Proof/Tests/Slice0.lean ====
section
/-! SUPPORT. Tests: the smoke test of well-formedness, the worked examples of spec/, one small step for each command, and for
every statement with hypotheses a state and operands that meet them, clause by clause at the ends of its ranges. Expected
values are the manual's, or read from its rules by hand. -/

namespace Sys2Proof.Tests

open Sys2Proof Sys2Proof.Machine

set_option Elab.async false

/-! ## Small states and commands -/

/-- A node controller in each state, at position 3 of epoch 7. -/
def ctl : NodeState → NodeCtl
  | .unaddressed => NodeCtl.reset
  | .ready => { NodeCtl.reset with state := .ready, position := some 3, epoch := some 7 }
  | .running => { NodeCtl.reset with state := .running, position := some 3, epoch := some 7, silenceTimer := some 0 }
  | .fallback => { NodeCtl.reset with state := .fallback, position := some 3, epoch := some 7, outageTimer := 9 }

/-- A node in operation, LOCKED, with this frame record. -/
def within (n : NodeState) (f : FrameRecord) : State :=
  { State.reset with phase := .operating, node := ctl n, port := { Port.reset with link := .locked, frame := f } }

/-- Slot 0 of a NORMAL frame of 48 slots is awaited. -/
def slots (n : NodeState) : State := within n (.slots 48 0 (some .normal))

/-- The last slot of a NORMAL frame of 48 slots is awaited. -/
def lastSlot (n : NodeState) : State := within n (.slots 48 47 (some .normal))

/-- A header is awaited. -/
def awaiting (n : NodeState) : State := within n .header

/-- Arguments. -/
def args (a b c d e : Byte) : Args := { a0 := a, a1 := b, a2 := c, a3 := d, a4 := e }

/-- A payload whose first bytes are these. -/
def payload (a b c d : Byte) : Payload := { p0 := a, p1 := b, p2 := c, p3 := d, p4 := 0, p5 := 0, p6 := 0 }

/-- A header of good check. -/
def header (kind epoch hop count : Byte) : HeaderBytes :=
  withHop { kind := kind, cycle := 17, epoch := epoch, hop := 0, slots := count, check := 0 } hop

/-- A report. -/
def report (seq : Byte) (b : ReportBody) (st : Delivery) : Report :=
  { seq := seq, body := b, cycle := 17, status := st, everSent := st = .sent, retries := 0 }

/-- `n` waiting reports numbered from 0. -/
def waiting (n : Nat) : List Report := (List.range n).map fun i => report (natByte i) .commitDone .waiting

/-- A state with its queue holding these reports. -/
def holding (rs : List Report) (next : Byte) (t : Option Nat) (s : State) : State :=
  { s with queue := { s.queue with reports := rs, nextSeq := next, ackTimer := t } }

/-- A state with one entry of its active map. -/
def mapped (i : Fin 48) (e : MapEntry) (s : State) : State := { s with map := { s.map with active := setAt s.map.active i e } }

/-- A TAKE entry. -/
def takeEntry (wide : Bool) (mode : DriveMode) (changeOnly : Bool) : TakeEntry :=
  { offset := 1, wide := wide, channel := 15, mode := mode, changeOnly := changeOnly }

/-- The view of pins that the board holds low. -/
def heldLow : PinView := { held := BitVec.allOnes 24, level := 0, pwmStep := 0 }

/-- A question asked of the state a command answers; false where it answers none. -/
def after (c : Instr) (s : State) (p : State → Bool) : Bool :=
  match exec c s with
  | .next t => p t
  | .fault _ => false
  | .refused _ => false

/-- The slot on LOUT. -/
def sentSlot (t : State) : Option SlotBytes :=
  match t.port.loopOut with
  | .part (.slot b) => some b
  | _ => none

/-- What the reply in the slot sent on says: tag, token, status, data. -/
def replyIs (tag token : Byte) (st : Status) (d0 d1 d2 d3 d4 : Byte) (t : State) : Bool :=
  sentSlot t = some (replySlot tag token st { d0, d1, d2, d3, d4 })

/-! ## Well-formedness -/

theorem test_unknown_request_of_a_known_code_is_ill_formed :
    (Instr.unknownRequest 3 1 0x3A (args 0 0 0 0 0)).wellFormed = false := by decide +kernel

theorem test_unknown_request_of_code_0_is_well_formed :
    (Instr.unknownRequest 3 1 0x00 (args 0 0 0 0 0)).wellFormed = true := by decide +kernel

/-! ## The worked examples of spec/ -/

/-- Chapter 10, after R192. -/
theorem test_crc_of_one_zero : crc8 [0x00] = 0xF3 := by decide +kernel

/-- Chapter 10, after R192. -/
theorem test_crc_of_two_zeros : crc8 [0x00, 0x00] = 0xD7 := by decide +kernel

/-- Chapter 10: a part with its check leaves 0. -/
theorem test_crc_over_part_and_check : crc8 [0x01, 0x11, 0x07, 0x00, 0x30, (header 0x01 0x07 0x00 0x30).check] = 0 := by
  decide +kernel

/-- Chapter 10's container: report 40, CONTACT 2 ACTIVE, of cycle 17, in the slot of position 6, byte by byte. -/
theorem test_container_example :
    (fun b : SlotBytes => [b.kind, b.tag, b.payload.p0, b.payload.p1, b.payload.p2, b.payload.p3, b.payload.p4,
        b.payload.p5, b.payload.p6])
      (makeSlot .container 6 (reportPayload (report 40 (.contact 2 true) .waiting) false)) =
      [0x02, 0x06, 0x28, 0x03, 0x02, 0x01, 0x00, 0x11, 0x00] := by decide +kernel

/-- Chapter 10's MAP WRITE of entry 5: the request's bytes give the entry, and its echo the same bytes. -/
theorem test_map_write_example :
    mapEntryOf 0x11 0x22 0x03 =
      some (.take { offset := 2, wide := true, channel := 3, mode := .level, changeOnly := true }) := by decide +kernel

/-- Every request code of 10.4 names its request. -/
theorem test_request_codes : Request.known.map (fun r => Request.ofCode r.code) = Request.known := by decide +kernel

/-- R139's rise from 0 to 255 over 4 ticks and fall from 200 to 0 over 3. -/
theorem test_ramp_examples :
    (List.range 5).map (rampLevel 0 255 · 4) = [0, 63, 127, 191, 255] ∧
    (List.range 4).map (rampLevel 200 0 · 3) = [200, 134, 67, 0] := by decide +kernel

/-- The effect memory of chapter 8's example. -/
def exampleEngine : Engine :=
  { Engine.reset with
    segments := setAt (setAt (setAt Engine.reset.segments 10 { target := 200, ramp := 2, hold := 1 }) 11
      { target := 0, ramp := 0, hold := 1 }) 12 { target := 100, ramp := 3, hold := 0 }
    effects := setAt (setAt Engine.reset.effects 3
      { first := 10, count := 2, repeatCount := 2, endAction := .chain 4, notify := true }) 4
      { first := 12, count := 1, repeatCount := 1, endAction := .level 40, notify := true } }

/-- A channel of that example. -/
def playing (i : Fin 32) (position tick : Nat) (segStart : Byte) (runs : Byte) (level : Byte) : Channel :=
  { motion := .playing i position tick segStart (some runs), level := level, fallback := .keep 0 }

/-- Ticks 1, 3 and 4 of chapter 8's example. -/
theorem test_effect_example_runs :
    exampleEngine.startEffect 3 0 { Channel.reset with level := 50 } = playing 3 0 0 50 2 50 ∧
    exampleEngine.advance (playing 3 0 0 50 2 50) = (playing 3 0 1 50 2 125, none) ∧
    exampleEngine.advance (playing 3 0 2 50 2 200) = (playing 3 1 0 200 2 0, none) ∧
    exampleEngine.advance (playing 3 1 0 200 2 0) = (playing 3 0 0 0 1 0, none) := by decide +kernel

/-- Ticks 8, 9 and 11 of chapter 8's example. -/
theorem test_effect_example_ends :
    exampleEngine.advance (playing 3 1 0 200 1 0) = (playing 4 0 0 0 1 0, some 3) ∧
    exampleEngine.advance (playing 4 0 0 0 1 0) = (playing 4 0 1 0 1 33, none) ∧
    exampleEngine.advance (playing 4 0 2 0 1 66) =
      ({ motion := .steady, level := 40, fallback := .keep 0 }, some 4) := by decide +kernel

/-- The scanner of 11.4's example with its keys in these states. -/
def chord (k0 k1 k8 k9 k18 : KeyState) : Scanner :=
  { Scanner.reset with
    enabled := true, rowLines := [0, 1, 2, 3], columnLines := [4, 5, 6, 7], debounce := 2
    keys := setAt (setAt (setAt (setAt (setAt allKeysUp 0 k0) 1 k1) 8 k8) 9 k9) 18 k18 }

/-- The readings of these keys. -/
def pressed (ks : List Nat) : BitVec 64 := ks.foldl (fun acc k => acc ||| BitVec.twoPow 64 k) 0

/-- In that example key 9 is ambiguous by keys 8 and 1, with three held; key 18 is not, with three or four held. -/
theorem test_chord_ambiguity :
    ambiguous (chord .down .down .down .up .up).keys 9 = true ∧
    ambiguous (chord .down .down .down .up .up).keys 18 = false ∧
    heldCount (chord .down .down .down .blocked .up).keys = 3 ∧
    heldCount (chord .down (.releasePending 1) .down .blocked .down).keys = 4 := by decide +kernel

/-- Passes 2 and 4 of 11.4's example. -/
theorem test_chord_example :
    evaluateKeys (chord (.pressPending 1) (.pressPending 1) (.pressPending 1) (.pressPending 1) (.pressPending 1))
        (pressed [0, 1, 8, 9, 18]) =
      { keys := (chord .down .down .down .blocked .down).keys,
        reports := [.keyDown 0, .keyDown 1, .keyDown 8, .keyDown 18] } ∧
    evaluateKeys (chord .down (.releasePending 1) .down .blocked .down) (pressed [0, 8, 9, 18]) =
      { keys := (chord .down .up .down .down .down).keys, reports := [.keyUp 1, .keyDown 9] } := by decide +kernel

/-- Chapter 5's strip board. -/
def stripBoard : LineTable := Vector.ofFn fun l =>
  if l.val < 4 then .row (Fin.ofNat 8 l.val)
  else if l.val < 10 then .column (Fin.ofNat 8 (l.val - 4))
  else if l.val < 14 then .contact (Fin.ofNat 8 (l.val - 10)) .up .activeLow
  else .indicator (Fin.ofNat 16 (min 8 (l.val - 14))) .pushPull .activeHigh

/-- It passes as written, and chapter 5's four faulty versions of it draw their reasons and lines. -/
theorem test_validation_examples :
    validate stripBoard = none ∧ rowCount stripBoard = 4 ∧ columnCount stripBoard = 6 ∧
    validate (setAt stripBoard 2 (.row 1)) = some (.duplicateLine, 2) ∧
    validate (setAt stripBoard 3 (.row 4)) = some (.gap, 3) ∧
    validate (Vector.ofFn fun l => if 4 ≤ l.val ∧ l.val < 10 then .unused else stripBoard.get l) =
      some (.halfMatrix, 0) ∧
    validate (setAt (setAt stripBoard 2 (.row 1)) 20 (.contact 0 .none .activeHigh)) = some (.duplicateLine, 2) := by
  decide +kernel

/-- 11.3's example at the header of frame 3: the timer reaches Rt, and 50 is charged. -/
theorem test_timeout_example :
    ({ Queue.reset with
        reports := [report 50 .commitDone .sent, report 51 .commitDone .sent], ackTimer := some 1, retryInterval := 2 }
      : Queue).timeout.reports =
      [{ report 50 .commitDone .sent with status := .waiting, retries := 1 },
       { report 51 .commitDone .sent with status := .waiting }] := by decide +kernel

/-- 11.3's second example, discard 254: the lost count reaches 255; at discard 255 it stays. -/
theorem test_overrun_example :
    ({ Queue.reset with reports := [report 131 (.overrun 254) .waiting], lost := 1 } : Queue).handleOverrun.reports =
      [report 131 (.overrun 255) .waiting] ∧
    ({ Queue.reset with reports := [report 131 (.overrun 255) .waiting], lost := 1 } : Queue).handleOverrun.reports =
      [report 131 (.overrun 255) .waiting] := by decide +kernel

/-- Chapter 10: MAP READ of ACTIVE entry 5 after its TAKE gave 200 and 50. -/
theorem test_map_read_example :
    after (.mapRead 3 12 (args 5 0 0 0 0))
      { (slots .running) with
        map := { SlotMap.reset with
          active := setAt SlotMap.reset.active 5
            (.take { offset := 2, wide := true, channel := 3, mode := .level, changeOnly := true })
          lastValues := setAt noLastValues 5 (some (.two 200 50)) } }
      (replyIs 3 12 .ok 0x51 0x22 0x03 0xC8 0x32) = true := by decide +kernel

/-! ## One small step for each command -/

theorem test_power_on_reset : after .powerOnReset (slots .running)
    (fun t => t.phase = .starting && t.bypass = .asserted && t.node = NodeCtl.reset) = true := by decide +kernel

theorem test_power_loss : after .powerLoss (slots .running)
    (fun t => t.bypass = .undriven && t.port.loopOut = .undriven) = true := by decide +kernel

theorem test_pin_reset : after (.pinReset .full) (slots .running)
    (fun t => t.phase = .heldInReset && t.bypass = .asserted && t.port.frame = .noFrame) = true := by decide +kernel

theorem test_reset_released : after .resetReleased { State.reset with phase := .heldInReset, resetPinLow := true }
    (fun t => t.phase = .starting) = true := by decide +kernel

theorem test_start_up_complete : after .startUpComplete State.reset
    (fun t => t.bypass = .released && t.port.link = .searching) = true := by decide +kernel

theorem test_start_mark_cuts_a_frame_short : after (.startMark [0xAA]) (lastSlot .ready)
    (fun t => t.counters.get ctrSlotErrors = 1 && t.port.frame = .header) = true := by decide +kernel

theorem test_header_of_slot_count_49 : after (.headerArrival (header 1 7 0 49)) (awaiting .ready)
    (fun t => t.counters.get ctrHeaderErrors = 1 && t.port.badRun = 1) = true := by decide +kernel

theorem test_header_of_hop_count_60 : after (.headerArrival (header 2 9 60 1)) (awaiting .unaddressed)
    (fun t => t.node.position = some 60 && t.node.epoch = some 9 &&
      t.port.loopOut = .part (.header (header 2 9 61 1))) = true := by decide +kernel

/-- The ack timer at Rt, 4. -/
theorem test_timeout_go_back : after .timeoutGoBack
    (holding [report 5 .commitDone .sent] 6 (some 4) (slots .running))
    (fun t => t.queue.ackTimer = none && t.queue.sentCount = 0) = true := by decide +kernel

theorem test_timeout_go_back_below_the_interval : after .timeoutGoBack
    (holding [report 5 .commitDone .sent] 6 (some 3) (slots .running))
    (fun t => t.queue.ackTimer = some 3 && t.queue.sentCount = 1) = true := by decide +kernel

theorem test_commit_carried_out : after .commitCarriedOut
    { (slots .ready) with
      map := { SlotMap.reset with staging := setAt SlotMap.reset.staging 4 .offer, commitPending := true } }
    (fun t => t.map.active.get 4 = .offer && t.map.commitPending = false &&
      t.queue.reports.map Report.body = [.commitDone]) = true := by decide +kernel

/-- R40, R55, R56: between two slots, with no frame and in FALLBACK the commit stays pending. -/
theorem test_commit_stays_pending :
    (∀ s ∈ [within .ready (.slots 48 1 (some .normal)), within .ready .noFrame, slots .fallback, slots .unaddressed,
        within .ready (.slots 48 0 (some .enumerate))],
      after .commitCarriedOut { s with map := { SlotMap.reset with commitPending := true } }
        (fun t => t.map.commitPending && t.queue.reports = []) = true) := by decide +kernel

theorem test_slot_of_bad_check : after (.slotArrival { makeSlot .data 0 (payload 1 2 3 4) with check := 0 } noPins)
    (slots .running) (fun t => t.counters.get ctrSlotErrors = 1) = true := by decide +kernel

theorem test_take_drives_channel_15 : after (.slotArrival (makeSlot .data 0 (payload 1 200 7 0)) noPins)
    (mapped 0 (.take (takeEntry true .level false)) (slots .running))
    (fun t => (t.engine.channels.get 15).motion = .gliding 0 200 7 0) = true := by decide +kernel

theorem test_end_mark : after (.endMark []) (within .ready (.slots 3 3 (some .normal)))
    (fun t => t.counters.get ctrSlotErrors = 0 && t.port.frame = .noFrame) = true := by decide +kernel

theorem test_mark_timer_expiry : after .markTimerExpiry (slots .ready)
    (fun t => t.port.link = .searching && t.port.frame = .noFrame && t.port.searchCount = 1) = true := by decide +kernel

/-- R12: a mark timer that rests, expired, does not expire again before a start mark, though a header has locked the link. -/
theorem test_mark_timer_rests : after .markTimerExpiry
    { (slots .ready) with port := { (slots .ready).port with markTimer := 10 } }
    (fun t => t.port.link = .locked && t.port.frame = .slots 48 0 (some .normal) && t.port.searchCount = 0) = true := by
  decide +kernel

theorem test_silence_timer_expiry : after .silenceTimerExpiry (slots .running)
    (fun t => t.node.state = .fallback && t.node.outageTimer = 1 && t.counters.get ctrFallbackEntries = 1) = true := by
  decide +kernel

theorem test_outage_timer_step : after .outageTimerStep (slots .fallback) (fun t => t.node.outageTimer = 10) = true := by
  decide +kernel

theorem test_pass_start : after .passStart { (slots .running) with scanner := chord .up .up .up .up .up }
    (fun t => t.scanner.pass = some { column := 0, closed := 0 } && t.scanner.passTimer = some 0) = true := by
  decide +kernel

/-- Four row lines held low: the keys of column 1 read closed. -/
theorem test_column_settled : after (.columnSettled heldLow)
    { (slots .running) with
      scanner := { chord .up .up .up .up .up with pass := some { column := 1, closed := 0 } }
      lines := { LineMap.reset with
        entries := setAt (setAt (setAt (setAt LineMap.reset.entries 0 (.row 0)) 1 (.row 1)) 2 (.row 2)) 3 (.row 3) } }
    (fun t => t.scanner.pass = some { column := 2, closed := pressed [1, 9, 17, 25] }) = true := by decide +kernel

/-- No contact reports, so no open choice is taken: the keys' own reports, in ascending key code. -/
theorem test_pass_completion : after (.passCompletion heldLow)
    { (slots .running) with
      scanner := { chord .down (.releasePending 1) .down .blocked .down with
        pass := some { column := 4, closed := pressed [0, 8, 9, 18] } } }
    (fun t => t.queue.reports.map Report.body = [.keyUp 1, .keyDown 9] && t.scanner.pass = none) = true := by
  decide +kernel

theorem test_indicator_tick : after .indicatorTick
    { (slots .running) with
      engine := { exampleEngine with channels := setAt Engine.reset.channels 5 (playing 3 1 0 200 1 0) } }
    (fun t => t.queue.reports.map Report.body = [.effectEnd 3 5] &&
      t.engine.channels.get 5 = playing 4 0 0 0 1 0) = true := by decide +kernel

theorem test_glide_end : after (.glideEnd 2)
    { (slots .running) with
      engine := { Engine.reset with
        channels := setAt Engine.reset.channels 2 { Channel.reset with motion := .gliding 0 90 4 3 } } }
    (fun t => t.engine.channels.get 2 = { Channel.reset with level := 90 }) = true := by decide +kernel

theorem test_segment_end : after (.segmentEnd 5)
    { (slots .running) with
      engine := { exampleEngine with channels := setAt Engine.reset.channels 5 (playing 4 0 2 0 1 66) } }
    (fun t => (t.engine.channels.get 5).level = 40 && t.queue.reports.map Report.body = [.effectEnd 4 5]) = true := by
  decide +kernel

theorem test_pulse_width_period : after .pulseWidthPeriod
    { (slots .running) with
      engine := { Engine.reset with channels := setAt Engine.reset.channels 2 { Channel.reset with level := 77 } } }
    (fun t => t.lines.shown.get 2 = 77) = true := by decide +kernel

theorem test_info : after (.info 3 1 (args 0 0 0 0 0)) (slots .ready) (replyIs 3 1 .ok 0x6B 0x0C 0x18 0x01 24) = true := by
  decide +kernel

/-- READY and LOCKED: 1 + 4. -/
theorem test_status : after (.status 3 1 (args 0 0 0 0 0)) (slots .ready) (replyIs 3 1 .ok 5 3 7 0 0) = true := by
  decide +kernel

theorem test_counter : after (.counter 3 1 (args 9 1 0 0 0))
    { (slots .ready) with counters := setAt State.reset.counters 9 0x1234 }
    (fun t => replyIs 3 1 .ok 9 0x12 0x34 1 0 t && t.counters.get 9 = 0) = true := by decide +kernel

theorem test_node_reset : after (.nodeReset 3 1 (args 0 0 0 0 0)) (slots .ready)
    (fun t => replyIs 3 1 .ok 0 0 0 0 0 t && t.node.position = some 3 && t.node.resetDue) = true := by decide +kernel

theorem test_node_reset_takes_place : after .nodeResetTakesPlace
    { (slots .ready) with node := { ctl .ready with resetDue := true } }
    (fun t => t.node = NodeCtl.reset && t.port.frame = .slots 48 0 (some .normal)) = true := by decide +kernel

theorem test_block_reset : after (.blockReset 3 1 (args 0x02 0 0 0 0))
    (holding [report 5 .commitDone .sent] 6 (some 3) (slots .ready))
    (fun t => replyIs 3 1 .ok 2 0 0 0 0 t && t.queue.reports = [] && t.queue.nextSeq = 0) = true := by decide +kernel

theorem test_loop_set : after (.loopSet 3 1 (args 250 8 31 7 8)) (slots .ready)
    (fun t => replyIs 3 1 .ok 250 8 31 7 8 t && t.queue.retryInterval = 31) = true := by decide +kernel

theorem test_loop_get : after (.loopGet 3 1 (args 0 0 0 0 0)) (slots .running) (replyIs 3 1 .ok 20 8 4 3 2) = true := by
  decide +kernel

theorem test_start : after (.start 3 1 (args 0 0 0 0 0)) (holding [report 70 .commitDone .waiting] 71 none (slots .ready))
    (fun t => replyIs 3 1 .ok 70 1 0 0 0 t && t.node.state = .running && t.scanner.enabled) = true := by decide +kernel

theorem test_broadcast_stop : after (.stop 0xFE 1 (args 0 0 0 0 0)) (slots .running)
    (fun t => t.node.state = .ready && t.node.silenceTimer = none) = true := by decide +kernel

theorem test_map_write : after (.mapWrite 3 12 (args 5 0x11 0x22 3 0)) (slots .ready)
    (fun t => replyIs 3 12 .ok 5 0x11 0x22 3 0 t &&
      t.map.staging.get 5 = .take { offset := 2, wide := true, channel := 3, mode := .level, changeOnly := true }) = true := by
  decide +kernel

/-- Offset 6 of width 2 reads past the payload. -/
theorem test_map_commit_of_a_bad_entry : after (.mapCommit 3 1 (args 0 0 0 0 0))
    { (slots .ready) with
      map := { SlotMap.reset with
        staging := setAt SlotMap.reset.staging 47 (.take { takeEntry true .level false with offset := 6 }) } }
    (fun t => replyIs 3 1 .invalidConfig 47 0 0 0 0 t && t.map.commitPending = false) = true := by decide +kernel

theorem test_resync : after (.resync 3 1 (args 255 0 0 0 0))
    (holding [report 5 .commitDone .sent, report 6 .commitDone .waiting] 7 (some 1) (slots .ready))
    (fun t => replyIs 3 1 .ok 2 0 0 0 0 t && t.queue.reports.map Report.seq = [255, 0] && t.queue.nextSeq = 1) = true := by
  decide +kernel

theorem test_flush : after (.flush 3 1 (args 0 0 0 0 0))
    (holding [report 5 .commitDone .sent, report 6 .commitDone .waiting] 7 (some 1) (slots .ready))
    (fun t => replyIs 3 1 .ok 2 0 0 0 0 t && t.queue.reports = [] && t.queue.nextSeq = 7) = true := by decide +kernel

theorem test_line_write : after (.lineWrite 3 1 (args 23 4 15 2 1)) (slots .ready)
    (fun t => replyIs 3 1 .ok 23 4 15 2 1 t && t.lines.entries.get 23 = .indicator 15 .sourceOnly .activeLow) = true := by
  decide +kernel

/-- A CONTACT line with pull-up that nobody holds is sensed high. -/
theorem test_line_read : after (.lineRead 3 1 (args 7 0 0 0 0) noPins)
    { (slots .ready) with lines := { LineMap.reset with entries := setAt LineMap.reset.entries 7 (.contact 6 .up .activeLow) } }
    (replyIs 3 1 .ok 3 6 1 1 1) = true := by decide +kernel

theorem test_scan_set : after (.scanSet 3 1 (args 1 7 4 15 0)) (slots .ready)
    (fun t => replyIs 3 1 .ok 1 7 4 15 0 t && (t.contacts.get 7).sense = .whileActive) = true := by decide +kernel

/-- Interval 5, D 2, enabled, a 4 × 4 matrix, four keys held. -/
theorem test_scan_get : after (.scanGet 3 1 (args 0 0 0 0 0))
    { (slots .running) with scanner := chord .down .down .down .blocked (.releasePending 1) }
    (replyIs 3 1 .ok 5 2 1 0x44 4) = true := by decide +kernel

theorem test_keys_read : after (.keysRead 3 1 (args 1 0 0 0 0))
    { (slots .running) with scanner := chord .down .down .down .blocked .down }
    (replyIs 3 1 .ok 1 0x01 0x02 0 0) = true := by decide +kernel

theorem test_contacts_read : after (.contactsRead 3 1 (args 0 0 0 0 0))
    { (slots .running) with
      contacts := setAt (setAt State.reset.contacts 7 { Contact.reset with filtered := .active, held := true }) 0
        { Contact.reset with filtered := .inactive, lastRaw := true } }
    (replyIs 3 1 .ok 0x80 0x81 0x01 0x80 0) = true := by decide +kernel

/-- Segments 120 to 127 are the last eight of the pool. -/
theorem test_effect_write : after (.effectWrite 3 1 (args 31 120 0x68 0 5)) (slots .ready)
    (fun t => replyIs 3 1 .ok 31 120 0x68 0 5 t && t.engine.effects.get 31 =
      { first := 120, count := 8, repeatCount := 0, endAction := .chain 5, notify := true }) = true := by decide +kernel

theorem test_effect_write_past_the_pool : after (.effectWrite 3 1 (args 31 121 0x68 0 5)) (slots .ready)
    (fun t => replyIs 3 1 .badValue 0 0 0 0 0 t && t.engine.effects.get 31 = EffectRecord.reset) = true := by
  decide +kernel

theorem test_effect_read : after (.effectRead 3 1 (args 3 0 0 0 0)) { (slots .ready) with engine := exampleEngine }
    (replyIs 3 1 .ok 3 10 0x62 2 4) = true := by decide +kernel

theorem test_segment_write : after (.segmentWrite 3 1 (args 127 1 2 3 0)) (slots .ready)
    (fun t => replyIs 3 1 .ok 127 1 2 3 0 t && t.engine.segments.get 127 = { target := 1, ramp := 2, hold := 3 }) = true := by
  decide +kernel

theorem test_segment_read : after (.segmentRead 3 1 (args 11 0 0 0 0))
    { (slots .ready) with
      engine := { exampleEngine with channels := setAt Engine.reset.channels 5 (playing 3 1 0 200 1 0) } }
    (replyIs 3 1 .ok 11 0 0 1 1) = true := by decide +kernel

theorem test_channel_set : after (.channelSet 3 1 (args 15 2 31 0 0)) (slots .ready)
    (fun t => replyIs 3 1 .ok 15 2 31 0 0 t && (t.engine.channels.get 15).fallback = .effect 31) = true := by decide +kernel

/-- Tick 300 of a segment is 0x012C. -/
theorem test_channel_get : after (.channelGet 3 1 (args 5 1 0 0 0))
    { (slots .ready) with
      engine := { exampleEngine with channels := setAt Engine.reset.channels 5 (playing 3 1 300 200 1 0) } }
    (replyIs 3 1 .ok 3 1 0x01 0x2C 1) = true := by decide +kernel

theorem test_channel_drive : after (.channelDrive 3 1 (args 5 0 2 90 4))
    { (slots .ready) with engine := exampleEngine } (replyIs 3 1 .ok 5 1 0 0 0) = true := by decide +kernel

theorem test_unknown_request : after (.unknownRequest 3 1 0x00 (args 1 2 3 4 5)) (slots .ready)
    (fun t => replyIs 3 1 .unknownRequest 0 0 0 0 0 t && t.counters.get ctrRefused = 1) = true := by decide +kernel

/-! ## The hypotheses of the statements can be met -/

theorem witness_StepRunsTheFrontCommand :
    ({ State.reset with pending := [.startUpComplete, .passStart] } : State).pending = .startUpComplete :: [.passStart] ∧
    State.reset.pending = [] := by decide +kernel

theorem witness_SupplyAndResetPinCommands :
    ({ State.reset with phase := .unpowered } : State).phase = .unpowered ∧ (slots .running).phase ≠ .unpowered ∧
    ({ State.reset with phase := .heldInReset } : State).phase = .heldInReset ∧ State.reset.phase ≠ .heldInReset ∧
    State.reset.phase = .starting ∧ (slots .running).phase ≠ .starting := by decide +kernel

theorem witness_OnlySupplyMovesBypass :
    isSupplyCommand (.startMark []) = false ∧ isSupplyCommand .nodeResetTakesPlace = false ∧
    State.reset.phase ≠ .operating := by decide +kernel

theorem witness_MarksBeginAndCloseFrames :
    (slots .ready).awake ∧ (within .ready .noFrame).port.frame = .noFrame ∧ (awaiting .ready).port.frame = .header ∧
    (lastSlot .ready).port.frame = .slots 48 47 (some .normal) ∧
    (within .ready (.slots 48 48 (some .normal))).port.frame = .slots 48 48 (some .normal) ∧
    (within .ready (.slots 0 0 none)).port.frame = .slots 0 0 none := by decide +kernel

theorem witness_LinkIsLostByThreeBadHeadersOrSilence :
    Port.reset.link = .searching ∧
    (slots .ready).port.link = .locked ∧ (slots .ready).port.badRun ≠ 2 ∧
    ({ (slots .ready).port with badRun := 2 } : Port).link = .locked ∧
    ({ (slots .ready).port with badRun := 2 } : Port).badRun = 2 ∧
    (slots .ready).phase = .operating ∧ (slots .ready).port.markTimer < 10 ∧
    10 ≤ ({ (slots .ready).port with markTimer := 10 } : Port).markTimer ∧
    ({ (slots .ready).port with markTimer := 9 } : Port).markTimer < 10 ∧
    ({ (slots .ready) with port := Port.reset } : State).phase = .operating ∧
    ({ (slots .ready) with port := Port.reset } : State).port.markTimer < 10 ∧
    ({ (slots .ready) with port := Port.reset } : State).port.link = .searching := by decide +kernel

/-- Bad by its check, by slot count 0, 49 and 255; of unknown kind 0 and 3 with 1 and 48 slots. -/
theorem witness_UndeliveredHeadersReachNoBlock :
    (awaiting .ready).awaitsHeader ∧
    (let h := { header 1 7 0 48 with cycle := 18 }; h.check ≠ headerCheck h) ∧
    (header 1 7 0 0).slots.toNat = 0 ∧ 49 ≤ (header 1 7 0 49).slots.toNat ∧ 49 ≤ (header 1 7 0 255).slots.toNat ∧
    deliverable (header 0 7 0 1) ∧ (header 0 7 0 1).kind ≠ 0x01 ∧ (header 0 7 0 1).kind ≠ 0x02 ∧
    deliverable (header 3 7 0 48) ∧ (header 3 7 0 48).kind ≠ 0x01 ∧ (header 3 7 0 48).kind ≠ 0x02 := by decide +kernel

/-- Hop counts 1 and 60; 0, 61 and 254; 255. -/
theorem witness_EnumerationSetsPositionByHopCount :
    (awaiting .fallback).awaitsHeader ∧
    (∀ hop ∈ [1, 60, 0, 61, 254, 255], deliverable (header 2 9 hop 1) ∧ (header 2 9 hop 1).kind = 0x02) ∧
    1 ≤ (header 2 9 1 1).hop.toNat ∧ (header 2 9 60 1).hop.toNat ≤ 60 ∧ (header 2 9 0 1).hop.toNat = 0 ∧
    61 ≤ (header 2 9 61 1).hop.toNat ∧ (header 2 9 254 1).hop.toNat ≤ 254 ∧ (header 2 9 255 1).hop.toNat = 255 := by
  decide +kernel

theorem witness_AnotherEpochTakesThePosition :
    (ctl .running).state = .running ∧ (ctl .fallback).state = .fallback ∧ (ctl .ready).state = .ready ∧
    (ctl .unaddressed).state = .unaddressed ∧
    (awaiting .unaddressed).awaitsHeader ∧ deliverable (header 1 8 0 48) ∧ (header 1 8 0 48).kind = 0x01 ∧
    (awaiting .running).awaitsHeader ∧ (awaiting .running).node.state ≠ .unaddressed ∧
    (awaiting .running).node.epoch ≠ some (header 1 8 0 48).epoch := by decide +kernel

/-- A report SENT, the ack timer one below Rt, and a commit pending. -/
def commitAtTimeout (f : FrameRecord) : State :=
  { holding [report 5 .commitDone .sent] 6 (some 3) (within .running f) with
    map := { SlotMap.reset with commitPending := true } }

theorem witness_OwnEpochHeaderGivesTheFrameEvent :
    (awaiting .ready).awaitsHeader ∧ (commitAtTimeout .header).awaitsHeader ∧ deliverable (header 1 7 0 48) ∧
    (header 1 7 0 48).kind = 0x01 ∧ (awaiting .ready).node.epoch = some (header 1 7 0 48).epoch ∧
    (commitAtTimeout .header).node.epoch = some (header 1 7 0 48).epoch ∧ (awaiting .ready).node.state = .ready ∧
    (commitAtTimeout .header).node.state = .running ∧
    ¬((awaiting .ready).map.commitPending = true ∧ timeoutDue (awaiting .ready) = true) ∧
    ((commitAtTimeout .header).map.commitPending = true ∧ timeoutDue (commitAtTimeout .header) = true) := by
  decide +kernel

theorem witness_FallbackIsEnteredAndLeft :
    (slots .running).phase = .operating ∧ (slots .running).node.state = .running ∧
    (slots .fallback).phase = .operating ∧ (slots .fallback).node.state = .fallback ∧
    (awaiting .fallback).awaitsHeader ∧ deliverable (header 1 7 0 1) ∧ (header 1 7 0 1).kind = 0x01 ∧
    (awaiting .fallback).node.epoch = some (header 1 7 0 1).epoch ∧ (awaiting .fallback).node.state = .fallback ∧
    (awaiting .fallback).map.commitPending = false ∧
    ({ (awaiting .fallback) with map := { SlotMap.reset with commitPending := true } } : State).awaitsHeader ∧
    ({ (awaiting .fallback) with map := { SlotMap.reset with commitPending := true } } : State).map.commitPending = true := by
  decide +kernel

/-- Every way a slot passes: bad check, kinds 6 and 255, and each clause of the uncounted pass. -/
theorem witness_SlotsNotForTheNodePassUnchanged :
    (slots .ready).awaitsSlot .normal 48 0 ∧ (lastSlot .ready).awaitsSlot .normal 48 47 ∧
    (within .ready (.slots 1 0 (some .enumerate))).awaitsSlot .enumerate 1 0 ∧
    ¬goodSlot { makeSlot .data 0 (payload 1 2 3 4) with tag := 1 } ∧
    (∀ kind ∈ [0x06, 0xFF], let b : SlotBytes :=
      { kind := kind, tag := 0, payload := payload 0 0 0 0, check := slotCheck kind 0 (payload 0 0 0 0) }
      goodSlot b ∧ 6 ≤ b.kind.toNat) ∧
    (∀ k ∈ [SlotKind.void, .data, .container, .ackList, .mgmt, .mgmtReply],
      goodSlot (makeSlot k 4 (payload 1 2 3 4)) ∧ (makeSlot k 4 (payload 1 2 3 4)).kind.toNat ≤ 5) ∧
    (slots .ready).node.state ≠ .running ∧ (activeEntry (slots .running) 0).isTake = false ∧
    (activeEntry (slots .running) 0).isOffer = false ∧ (slots .unaddressed).awaitsSlot .normal 48 0 ∧
    (slots .fallback).node.state = .fallback ∧ (slots .ready).node.position ≠ some 4 ∧
    (slots .fallback).awaitsSlot .normal 48 0 ∧
    (∀ tag ∈ [3, 0xFE], goodSlot (requestSlot tag 1 0x04 (args 0 0 0 0 0)) ∧
      (requestSlot tag 1 0x04 (args 0 0 0 0 0)).kind = 0x04) ∧
    (mapped 47 .offer (slots .ready)).map.active.get 47 = .offer := by decide +kernel

/-- The last slot of a frame that is not delivered, bytes past the last slot of either kind of frame, and none awaited. -/
theorem witness_SlotsNotForTheNodePassUnchanged_bytes :
    (∀ f ∈ [FrameRecord.slots 3 2 none, .slots 3 3 none, .slots 48 48 (some .normal), .noFrame, .header],
      (within .ready f).awake ∧ (within .ready f).port.frame = f) ∧
    2 < (3 : Byte).toNat ∧ (3 : Byte).toNat ≤ 3 ∧ (48 : Byte).toNat ≤ 48 ∧
    (slots .ready).port.frame ≠ .header := by decide +kernel

theorem witness_LevelTakeDrivesItsChannel :
    (let t := takeEntry true .level true
     let s := mapped 47 (.take t) (lastSlot .running)
     let stored := { s with map := { s.map with lastValues := setAt noLastValues 47 (some (.two 200 0)) } }
     s.awaitsSlot .normal 48 (47 : Fin 48).val ∧ stored.awaitsSlot .normal 48 (47 : Fin 48).val ∧
     goodSlot (makeSlot .data 0 (payload 1 200 0 0)) ∧ (makeSlot .data 0 (payload 1 200 0 0)).kind = 0x01 ∧
     s.node.state = .running ∧ s.map.active.get 47 = .take t ∧ t.mode = .level ∧ t.changeOnly = true ∧
     stored.map.lastValues.get 47 = some (.two (payloadByte (payload 1 200 0 0) 1) (payloadByte (payload 1 200 0 0) 2)) ∧
     s.map.lastValues.get 47 = none ∧ payloadByte (payload 1 200 7 0) 2 ≠ 0) := by decide +kernel

/-- An unchanged value under change-only, of a selector that would be counted. -/
theorem witness_EffectTakeStartsStopsOrCounts_unchanged :
    (let t := takeEntry false .effect true
     let s := mapped 47 (.take t) (lastSlot .running)
     let u := { s with map := { s.map with lastValues := setAt noLastValues 47 (some (.one 32)) } }
     let b := makeSlot .data 0 (payload 0 32 0 0)
     u.awaitsSlot .normal 48 (47 : Fin 48).val ∧ goodSlot b ∧ b.kind = 0x01 ∧ u.node.state = .running ∧
     u.map.active.get 47 = .take t ∧ t.mode = .effect ∧ t.changeOnly = true ∧
     u.map.lastValues.get 47 = some (.one (payloadByte b.payload t.offset.val))) := by decide +kernel

/-- Selector 31 of a filled record, selector 0 of an empty one, 255, 32 and 254. -/
theorem witness_EffectTakeStartsStopsOrCounts :
    (let t := takeEntry false .effect false
     let s := mapped 0 (.take t) { (slots .running) with
       engine := { exampleEngine with effects := setAt exampleEngine.effects 31 (exampleEngine.effects.get 3) } }
     s.awaitsSlot .normal 48 (0 : Fin 48).val ∧ s.node.state = .running ∧ s.map.active.get 0 = .take t ∧
     t.mode = .effect ∧ t.changeOnly = false ∧
     (∀ x ∈ [31, 0, 255, 32, 254], goodSlot (makeSlot .data 0 (payload 0 x 0 0)) ∧
       (makeSlot .data 0 (payload 0 x 0 0)).kind = 0x01 ∧ payloadByte (payload 0 x 0 0) t.offset.val = x) ∧
     (31 : Byte).toNat = (31 : Fin 32).val ∧ (s.engine.effects.get 31).count ≠ 0 ∧
     (0 : Byte).toNat = (0 : Fin 32).val ∧ (s.engine.effects.get 0).count = 0 ∧ (255 : Byte).toNat = 255 ∧
     32 ≤ (32 : Byte).toNat ∧ (254 : Byte).toNat ≤ 254) := by decide +kernel

/-- Before the first slot of a NORMAL frame: a commit pending by itself in READY, and with the ack timer one below Rt and at Rt; and
between two slots, in FALLBACK and in UNADDRESSED. -/
theorem witness_FrameEventParts :
    (let s := commitAtTimeout (.slots 48 0 (some .normal))
     let u := { s with queue := { s.queue with ackTimer := some 4 } }
     s.phase = .operating ∧ s.port.frame = .slots 48 0 (some .normal) ∧ s.map.commitPending = true ∧
     s.node.state = .running ∧ 0 < s.queue.sentCount ∧ s.queue.retryInterval.toNat ≤ s.queue.ackTimer.getD 0 + 1 ∧
     ¬s.queue.retryInterval.toNat ≤ s.queue.ackTimer.getD 0 ∧ u.queue.retryInterval.toNat ≤ u.queue.ackTimer.getD 0 ∧
     s.queue.reports = report 5 .commitDone .sent :: [] ∧ timeoutDue s = true) ∧
    ({ (slots .ready) with map := { SlotMap.reset with commitPending := true } } : State).map.commitPending = true ∧
    (slots .ready).port.frame = .slots 48 0 (some .normal) ∧ (slots .ready).node.state = .ready ∧
    (slots .ready).map.commitPending = false ∧ (slots .ready).node.state ≠ .running ∧
    (slots .unaddressed).node.state = .unaddressed ∧ (slots .fallback).node.state = .fallback ∧
    (slots .running).node.state = .running ∧ ¬0 < (slots .running).queue.sentCount ∧
    (let s := holding [report 5 .commitDone .sent] 6 (some 2) (slots .running)
     s.node.state = .running ∧ 0 < s.queue.sentCount ∧ ¬s.queue.retryInterval.toNat ≤ s.queue.ackTimer.getD 0 + 1 ∧
     ¬(s.map.commitPending = true ∧ timeoutDue s = true)) := by
  decide +kernel

theorem witness_FrameEventParts_between_slots :
    ∀ count : Byte, (commitAtTimeout (.slots 48 1 (some .normal))).port.frame ≠ .slots count 0 (some .normal) := by
  intro count h
  cases h

/-- 30 ordinary reports; 31 without an OVERRUN report, with one WAITING, and with one SENT. -/
theorem witness_EnqueueAppendsOrCountsTheLoss :
    (holding (waiting 30) 30 none (slots .ready)).queue.ordinaryCount < 31 ∧
    31 ≤ (holding (waiting 31) 31 none (slots .ready)).queue.ordinaryCount ∧
    (waiting 31).all (fun r => !r.body.isOverrun) = true ∧
    (∀ st ∈ [Delivery.waiting, .sent],
      let s := holding (waiting 31 ++ report 31 (.overrun 255) st :: []) 32 none (slots .ready)
      31 ≤ s.queue.ordinaryCount ∧ (report 31 (.overrun 255) st).body = .overrun 255 ∧
        (waiting 31 ++ []).all (fun x => !x.body.isOverrun) = true ∧ (report 31 (.overrun 255) st).status = st) := by
  decide +kernel

/-- One report SENT and one WAITING at the window's last place; and each reason for passing on. -/
theorem witness_OfferFillsAFreeContainer :
    (let q := { Queue.reset with
        reports := [report 5 .commitDone .sent] ++ report 6 .commitDone .waiting :: [], nextSeq := 7, window := 2,
        offerCount := 1 }
     let s : State := { mapped 47 .offer (lastSlot .running) with queue := q }
     let b := makeSlot .container 0xFF (payload 0 0 0 0)
     s.awaitsSlot .normal 48 (47 : Fin 48).val ∧ goodSlot b ∧ b.kind = 0x02 ∧ b.tag = 0xFF ∧ s.node.state = .running ∧
     s.node.position = some 3 ∧ s.map.active.get 47 = .offer ∧ s.queue.stalled = false ∧
     s.queue.offerCount < s.queue.offerLimit.toNat ∧ s.queue.sentCount < s.queue.window.toNat ∧
     (∀ x ∈ [report 5 .commitDone .sent], x.status = .sent) ∧ (report 6 .commitDone .waiting).status = .waiting ∧
     (makeSlot .container 0xFE (payload 0 0 0 0)).tag ≠ 0xFF ∧ ({ q with stalled := true } : Queue).stalled = true ∧
     ({ q with offerCount := 2 } : Queue).offerLimit.toNat ≤ 2 ∧ ({ q with window := 1 } : Queue).window.toNat ≤ q.sentCount ∧
     (∀ r ∈ (slots .running).queue.reports, r.status = .sent)) := by decide +kernel

/-- A matched report behind one not named, an empty pair, a pair of another node, and a stray number. -/
theorem witness_AcklistRemovesWhatItNames :
    (let rs := [report 5 .commitDone .sent] ++ report 6 (.overrun 9) .sent :: [report 7 .commitDone .waiting]
     let s := holding rs 8 (some 0) (slots .running)
     let b := makeSlot .ackList 0 (payload 3 6 60 1)
     s.awaitsSlot .normal 48 0 ∧ goodSlot b ∧ b.kind = 0x03 ∧ s.node.state = .running ∧ (slots .ready).node.state = .ready ∧
     s.node.position ≠ some 60 ∧ (3 : Byte) ≠ 0 ∧ s.node.position = some 3 ∧ s.queue.reports = rs ∧
     (report 6 (.overrun 9) .sent).seq = 6 ∧ (report 6 (.overrun 9) .sent).everSent = true ∧
     (∀ x ∈ [report 5 .commitDone .sent], ¬(x.seq = 6 ∧ x.everSent = true)) ∧
     (∀ x ∈ s.queue.reports, ¬(x.seq = 7 ∧ x.everSent = true))) := by decide +kernel

/-- The removals of a CONTACT report and of another report. -/
theorem witness_AcklistRemovesWhatItNames_removals :
    (report 6 (.contact 7 true) .sent).body = .contact 7 true ∧
    ∀ (i : Fin 8) (active : Bool), (report 5 .commitDone .sent).body ≠ .contact i active :=
  ⟨rfl, fun _ _ h => by cases h⟩

theorem witness_RemovalRearmsAnActiveContact :
    (let c : Contact := { Contact.reset with sense := .whileActive, filtered := .active, held := true, queued := 1 }
     let s := { (slots .running) with contacts := setAt State.reset.contacts 7 c }
     (s.contacts.get 7).queued = 0 + 1 ∧ c.sense = .whileActive ∧ c.filtered = .active ∧ s.queue.ordinaryCount < 31 ∧
     31 ≤ (holding (waiting 31) 31 none s).queue.ordinaryCount ∧
     (let d := { c with sense := .onBoth }
      (({ s with contacts := setAt s.contacts 0 d } : State).contacts.get 0).queued = 0 + 1 ∧
      ¬(d.sense = .whileActive ∧ d.filtered = .active ∧ (0 : Nat) = 0))) := by decide +kernel

/-- Every function of a line, and a pass that reads column 0 or none. -/
theorem witness_PinsFollowTheirEntries :
    (let put (x : LineEntry) : State := { (slots .running) with lines := { LineMap.reset with entries := setAt LineMap.reset.entries 23 x } }
     (put .unused).phase = .operating ∧ (put .unused).lines.entries.get 23 = .unused ∧
     (put (.row 7)).lines.entries.get 23 = .row 7 ∧ (put (.column 0)).lines.entries.get 23 = .column 0 ∧
     (put (.column 0)).scanner.pass = none ∧
     ({ put (.column 0) with scanner := { Scanner.reset with pass := some { column := 0, closed := 0 } } } : State).scanner.pass =
       some { column := 0, closed := 0 } ∧
     (∀ p ∈ [Pull.none, .up, .down],
       (put (.contact 7 p .activeLow)).lines.entries.get 23 = .contact 7 p .activeLow) ∧
     (∀ d ∈ [Drive.pushPull, .sinkOnly, .sourceOnly], ∀ q ∈ [Polarity.activeHigh, .activeLow],
       (put (.indicator 15 d q)).lines.entries.get 23 = .indicator 15 d q)) := by decide +kernel

/-- A pin in each of the five things it can do, at the first step of a period. -/
theorem witness_PinsFollowTheirEntries_sensed :
    (let put (x : LineEntry) : State := { (slots .running) with
       lines := { entries := setAt LineMap.reset.entries 23 x, shown := Vector.replicate 16 1 } }
     heldLow.pwmStep = 0 ∧
     pinDrive (put (.indicator 15 .pushPull .activeHigh)) 23 0 = .high ∧
     pinDrive (put (.indicator 15 .pushPull .activeLow)) 23 0 = .low ∧ pinDrive (put (.row 7)) 23 0 = .pullUp ∧
     pinDrive (put (.contact 7 .down .activeHigh)) 23 0 = .pullDown ∧ pinDrive (put .unused) 23 0 = .highZ) := by
  decide +kernel

/-- No pass under way, and the first and the last column of a pass. -/
theorem witness_PassReadsColumnByColumn :
    (let s := { (slots .running) with scanner := chord .up .up .up .up .up }
     s.phase = .operating ∧ s.scanner.enabled = true ∧ s.scanner.pass = none) ∧
    (∀ c ∈ [0, 3],
      let s := { (slots .running) with scanner := { chord .up .up .up .up .up with pass := some { column := c, closed := 0 } } }
      s.phase = .operating ∧ s.scanner.pass = some { column := c, closed := 0 } ∧ c < s.scanner.columnLines.length ∧
      s.scanner.columnLines.length ≤ 8 ∧ s.scanner.rowLines.length ≤ 8) := by decide +kernel

theorem witness_DebounceFollowsItsTable :
    ∀ x ∈ [KeyState.up, .pressPending 1, .down, .releasePending 14, .blocked],
      (setAt allKeysUp 63 x).get 63 = x := by decide +kernel

/-- Each branch of the filter at F 15 and at F 0, and each sense. -/
theorem witness_ContactFilterAndSense :
    (let c : Contact := { Contact.reset with filtered := .inactive, filter := 15, agree := 14 }
     Contact.reset.filtered = .unknown ∧ c.filtered = (if false then Filtered.active else .inactive) ∧
     c.filtered ≠ .unknown ∧ c.filtered ≠ (if true then Filtered.active else .inactive) ∧
     c.agree.toNat < c.filter.toNat ∧ ({ c with agree := 15 } : Contact).filter.toNat ≤ 15 ∧
     ({ c with filter := 0, agree := 0 } : Contact).filter.toNat ≤ 0 ∧
     (∀ sense ∈ [Sense.off, .onActivate, .onRelease, .onBoth, .whileActive],
       ({ c with sense := sense, filtered := .active } : Contact).sense = ({ c with sense := sense } : Contact).sense ∧
       ({ c with sense := sense, filtered := .active } : Contact).filtered ≠ .unknown)) := by decide +kernel

theorem witness_PassCompletionHandsOverItsReports :
    (let s := { (slots .running) with scanner := { chord .up .up .up .up .up with pass := some { column := 4, closed := 0 } } }
     s.phase = .operating ∧ s.scanner.pass = some { column := 4, closed := 0 } ∧ s.scanner.columnLines.length ≤ 4) := by
  decide +kernel

/-- A contact without a line, and one of each polarity. -/
theorem witness_PassCompletionHandsOverItsReports_samples :
    (slots .running).scanner.contactLines.get 7 = none ∧
    (∀ q ∈ [Polarity.activeHigh, .activeLow],
      ({ (slots .running) with
          scanner := { Scanner.reset with contactLines := setAt Scanner.reset.contactLines 7 (some (23, q)) } } : State).scanner.contactLines.get 7 =
        some (23, q)) := by
  decide +kernel

/-- A contact's report where 30 ordinary reports are queued, and where 31 are. -/
theorem witness_PassCompletionHandsOverItsReports_reports :
    (holding (waiting 30) 30 none (slots .running)).queue.ordinaryCount < 31 ∧
    31 ≤ (holding (waiting 31) 31 none (slots .running)).queue.ordinaryCount := by decide +kernel

/-- A level report that is appended counts for its contact and sets its flag; one that is discarded leaves the contacts. -/
theorem test_level_report_is_counted :
    ((takePassReport (slots .running) (.contact 7 true true)).contacts.get 7 = { Contact.reset with held := true, queued := 1 }) ∧
    (takePassReport (holding (waiting 31) 31 none (slots .running)) (.contact 7 true true)).contacts = State.reset.contacts := by
  decide +kernel

/-- A ramp of one tick at both its ends. -/
theorem witness_RampIsTruncatedTowardItsStart : (1 : Nat) ≤ 1 ∧ (0 : Nat) ≤ 1 := by decide

/-- A glide, a tick within a segment, one between segments, restarts without end and with two runs left, and the last run
with each end action. -/
theorem witness_ChannelAdvancesByItsMode :
    rangeFits 120 8 = true ∧ 7 < (8 : Fin 9).val ∧ (exampleEngine.effects.get 31).count = 0 ∧
    Channel.reset.motion = .steady ∧
    ({ Channel.reset with motion := .gliding 0 90 1 0 } : Channel).motion = .gliding 0 90 1 0 ∧
    (let r := exampleEngine.effects.get 3
     let g0 := exampleEngine.segmentAt r 0
     let g1 := exampleEngine.segmentAt r 1
     (playing 3 0 1 50 2 125).motion = .playing 3 0 1 50 (some 2) ∧
     1 + 1 < max 1 (g0.ramp.toNat + g0.hold.toNat) ∧ max 1 (g0.ramp.toNat + g0.hold.toNat) ≤ 2 + 1 ∧
     0 + 1 < r.count.val ∧ max 1 (g1.ramp.toNat + g1.hold.toNat) ≤ 0 + 1 ∧ r.count.val ≤ 1 + 1 ∧
     2 ≤ (2 : Byte).toNat ∧ (1 : Byte).toNat ≤ 1 ∧ r.endAction = .chain 4 ∧
     (exampleEngine.effects.get 4).endAction = .level 40 ∧ (exampleEngine.effects.get 5).endAction = .hold 0) := by
  decide +kernel

/-- 15 ordinary reports leave room for sixteen notices. -/
theorem witness_TicksAdvanceTheChannels :
    (holding (waiting 15) 15 none (slots .running)).phase = .operating ∧
    (holding (waiting 15) 15 none (slots .running)).queue.ordinaryCount ≤ 15 ∧
    (let s := { (slots .running) with
      engine := { exampleEngine with
        channels := setAt (setAt Engine.reset.channels 0 { Channel.reset with motion := .gliding 0 90 255 254 }) 15
          (playing 4 0 2 0 1 66) } }
     s.phase = .operating ∧ (s.engine.channels.get 0).motion = .gliding 0 90 255 254 ∧ (255 : Byte).toNat ≤ 254 + 1 ∧
     (s.engine.channels.get 15).motion = .playing 4 0 2 0 (some 1) ∧
     (s.engine.segmentAt (s.engine.effects.get 4) 0).length ≤ 2 + 1) := by decide +kernel

theorem witness_GlideReachesItsTargetOnTime :
    (let s := { (slots .running) with
      engine := { Engine.reset with
        channels := setAt Engine.reset.channels 15 { Channel.reset with motion := .gliding 0 90 255 0 } } }
     s.phase = .operating ∧ (s.engine.channels.get 15).motion = .gliding 0 90 255 0 ∧ (1 : Nat) ≤ 254 ∧ 254 < (255 : Byte).toNat ∧
     (255 : Byte).toNat ≤ 255) := by decide +kernel

/-! ### Management -/

/-- A node in READY and one in RUNNING are served; with an empty cache, and with another request cached, every request is
fresh. -/
theorem witness_serves_and_fresh :
    (slots .ready).serves 3 48 0 ∧ (lastSlot .running).serves 3 48 47 ∧
    (∀ r ∈ Request.known, (slots .ready).fresh 1 r.code (args 0 0 0 0 0) ∧
      (let e : CacheEntry := { token := 1, code := r.code, args := args 0 0 0 0 1, status := .ok, data := noData }
       ({ (slots .ready) with agent := { cache := some e } } : State).fresh 1 r.code (args 0 0 0 0 0))) := by
  decide +kernel

theorem witness_RequestRowIsItsSlot :
    (requestRow (.unknown 0xFF) 3 1 (args 0 0 0 0 0) noPins).wellFormed = true ∧
    (requestRow .info 3 1 (args 0 0 0 0 0) noPins).wellFormed = true := by decide +kernel

theorem witness_RequestsThatAreNotExecuted :
    (let e : CacheEntry := { token := 1, code := 0x01, args := args 0 0 0 0 0, status := .ok, data := noData }
     let s := { (slots .ready) with agent := { cache := some e } }
     s.serves 3 48 0 ∧ s.agent.cache = some e ∧ (1 : Byte) ≠ 0 ∧ e.token = 1 ∧ e.code = Request.info.code ∧
     e.args = args 0 0 0 0 0) ∧
    (slots .ready).awaitsSlot .normal 48 0 ∧ Request.info.code ≠ 0x04 ∧ Request.info.code ≠ 0x08 ∧
    Request.info.code ≠ 0x09 ∧ (within .ready (.slots 48 0 (some .enumerate))).awaitsSlot .enumerate 48 0 ∧
    (slots .ready).node.position ≠ some 4 ∧ (4 : Byte) ≠ 0xFE ∧ (slots .ready).serves 3 48 0 ∧
    (slots .ready).fresh 1 Request.info.code (args 2 0 0 0 0) ∧
    (requestRow .info 3 1 (args 2 0 0 0 0) noPins).wellFormed = true ∧
    serve .info noPins (args 2 0 0 0 0) (slots .ready) = .refused .badValue noData := by
  refine ⟨by decide +kernel, by decide +kernel, by decide, by decide, by decide, by decide +kernel, by decide +kernel,
    by decide, by decide +kernel, by decide +kernel, by decide +kernel, rfl⟩

/-- The ends of every index range, and each state gate. -/
theorem witness_ChecksOfCodeStateAndIndex :
    (slots .ready).serves 3 48 0 ∧ (slots .running).serves 3 48 0 ∧ isUnknownCode 0x00 = true ∧ isUnknownCode 0xFF = true ∧
    (slots .ready).fresh 1 0x00 (args 0 0 0 0 0) ∧
    (slots .running).node.state = .running ∧ (slots .ready).node.state = .ready ∧ (slots .ready).scanner.enabled = false ∧
    ({ (slots .ready) with scanner := chord .up .up .up .up .up } : State).scanner.enabled = true ∧
    10 ≤ (10 : Byte).toNat ∧ 48 ≤ (48 : Byte).toNat ∧ 24 ≤ (24 : Byte).toNat ∧ 8 ≤ (8 : Byte).toNat ∧
    32 ≤ (32 : Byte).toNat ∧ 128 ≤ (128 : Byte).toNat ∧ 16 ≤ (255 : Byte).toNat := by decide +kernel

/-- A state in which each resource check fails: a commit pending, entry 47 past the payload, a gap at line 0, an enabled
scanner, two reports of contact 7, an effect in play and its segments in use. -/
theorem witness_ChecksOfResources :
    (let s := { (slots .ready) with
      map := { SlotMap.reset with
        commitPending := true
        staging := setAt SlotMap.reset.staging 47 (.take { takeEntry true .level false with offset := 6 }) }
      lines := { LineMap.reset with entries := setAt LineMap.reset.entries 0 (.row 1) }
      contacts := setAt State.reset.contacts 7 { Contact.reset with queued := 2 }
      engine := { exampleEngine with channels := setAt Engine.reset.channels 5 (playing 3 0 0 50 2 50) } }
     let t := { s with map := { s.map with commitPending := false } }
     let u := { s with scanner := chord .up .up .up .up .up }
     s.serves 3 48 0 ∧ t.serves 3 48 0 ∧ u.serves 3 48 0 ∧ s.fresh 0 0x10 (args 47 0 0 0 0) ∧ s.map.commitPending = true ∧
     (47 : Byte).toNat < 48 ∧ (mapEntryOf 0 0 0).isSome = true ∧
     t.map.commitPending = false ∧ (t.map.staging.get 47).fits = false ∧ (∀ j < (47 : Fin 48), (t.map.staging.get j).fits = true) ∧
     s.node.state = .ready ∧ s.scanner.enabled = false ∧ validate s.lines.entries = some (.gap, 0) ∧
     u.scanner.enabled = true ∧ (32 : Byte).toNat ≤ 32 ∧ 1 ≤ (1 : Byte).toNat ∧ (15 : Byte).toNat ≤ 15 ∧
     (7 : Byte).toNat = (7 : Fin 8).val ∧ (4 : Byte).toNat ≤ 4 ∧ 2 ≤ (s.contacts.get 7).queued ∧
     (3 : Byte).toNat = (3 : Fin 32).val ∧ (effectRecordOf 10 2 0 0).isSome = true ∧ s.engine.inPlay 3 = true ∧
     (11 : Byte).toNat = (11 : Fin 128).val ∧ s.engine.segmentInUse 11 = true) := by decide +kernel

/-- A line map that passes validation, with a matrix and contacts. -/
theorem witness_StartAndStop_lines : validate stripBoard = none ∧ stripBoard.get 3 = .row 3 ∧ stripBoard.get 9 = .column 5 ∧
    stripBoard.get 13 = .contact 3 .up .activeLow := by decide +kernel

theorem witness_PackedEntriesReadBack : rangeFits 120 8 = true ∧ rangeFits 127 0 = true := by decide

/-- The pages and clear flags at their ends, for INFO, STATUS and COUNTER. -/
theorem witness_InfoStatusCounter :
    (slots .ready).serves 3 48 0 ∧ (slots .ready).fresh 0 0x01 (args 2 0 0 0 0) ∧
    (0 : Byte).toNat = 0 ∧ (1 : Byte).toNat = 1 ∧ (2 : Byte).toNat = 2 ∧ 2 ≤ (2 : Byte).toNat ∧ 3 ≤ (3 : Byte).toNat ∧
    (9 : Byte).toNat = (9 : Fin 10).val ∧ (1 : Byte).toNat ≤ 1 := by decide +kernel

/-- A count below the top of a counter, and one at it (R14). -/
theorem test_count_saturates : satInc (0xFFFE : Count) = 0xFFFF ∧ satInc (0xFFFF : Count) = 0xFFFF := by decide

theorem witness_NodeResetFollowsItsSlot :
    (slots .running).serves 3 48 0 ∧ (slots .running).fresh 1 0x04 (args 0 0 0 0 0) ∧
    (slots .unaddressed).awaitsSlot .normal 48 0 ∧ (slots .unaddressed).node.state ≠ .fallback ∧
    (let s := { (slots .ready) with node := { ctl .ready with resetDue := true } }
     s.phase = .operating ∧ s.node.resetDue = true) := by decide +kernel

/-- Sets 0 and 32, 1 and 31. -/
theorem witness_BlockResetResetsTheNamedBlocks :
    (slots .ready).serves 3 48 0 ∧ (slots .ready).fresh 1 0x05 (args 31 0 0 0 0) ∧ (args 0 0 0 0 0).a0 = 0 ∧
    32 ≤ (args 32 0 0 0 0).a0.toNat ∧ 1 ≤ (args 1 0 0 0 0).a0.toNat ∧ (args 31 0 0 0 0).a0.toNat < 32 := by decide +kernel

/-- Both ends of the five settings, and one field past its end. -/
theorem witness_LoopSettings :
    (slots .ready).serves 3 48 0 ∧ (slots .ready).fresh 1 0x06 (args 2 1 2 0 1) ∧ (slots .ready).node.state = .ready ∧
    (∀ a ∈ [args 2 1 2 0 1, args 250 8 31 7 8], 2 ≤ a.a0.toNat ∧ a.a0.toNat ≤ 250 ∧ 1 ≤ a.a1.toNat ∧ a.a1.toNat ≤ 8 ∧
      2 ≤ a.a2.toNat ∧ a.a2.toNat ≤ 31 ∧ a.a3.toNat ≤ 7 ∧ 1 ≤ a.a4.toNat ∧ a.a4.toNat ≤ 8) ∧
    ¬((args 2 1 2 8 1).a3.toNat ≤ 7) := by decide +kernel

/-- START with a stopped scanner and an enabled one, STOP, and a broadcast START that fails. -/
theorem witness_StartAndStop :
    (slots .ready).serves 3 48 0 ∧ (slots .ready).fresh 1 0x08 (args 0 0 0 0 0) ∧ (slots .ready).node.state = .ready ∧
    validate (slots .ready).lines.entries = none ∧
    ({ (slots .ready) with scanner := chord .up .up .up .up .up } : State).scanner.enabled = true ∧
    (slots .running).serves 3 48 0 ∧ (slots .running).fresh 1 0x09 (args 0 0 0 0 0) ∧
    (slots .running).node.state = .running ∧ (slots .unaddressed).awaitsSlot .normal 48 0 ∧
    (slots .unaddressed).node.state ≠ .ready ∧ (slots .unaddressed).node.state ≠ .running ∧
    (slots .ready).scanner.enabled = false ∧
    validate (setAt LineMap.reset.entries 23 (.row 0)) = some (.halfMatrix, 23) := by decide +kernel

theorem witness_MapRequestsLoadAndCommit :
    (let t := takeEntry true .level true
     let s := { mapped 47 (.take t) (slots .ready) with agent := { cache := none } }
     let u := { s with map := { s.map with lastValues := setAt noLastValues 47 (some (.two 1 2)) } }
     s.serves 3 48 0 ∧ u.serves 3 48 0 ∧ s.fresh 1 0x10 (args 47 1 0x12 15 0) ∧ (47 : Byte).toNat = (47 : Fin 48).val ∧
     mapEntryOf 0x11 0x12 15 = some (.take t) ∧ s.map.commitPending = false ∧ (args 47 1 0 0 0).a1 = 1 ∧
     (u.map.active.get 47).isTake = true ∧ u.map.lastValues.get 47 = some (.two 1 2) ∧ s.map.lastValues.get 47 = none ∧
     (∀ i, (s.map.staging.get i).fits = true)) := by decide +kernel

/-- Action 3, and a TAKE with each field just out of its range; the selector just above 1. -/
theorem witness_MapRequestsLoadAndCommit_values :
    (slots .ready).serves 3 48 0 ∧ (slots .ready).fresh 1 0x10 (args 47 3 0 0 0) ∧ (47 : Byte).toNat < 48 ∧
    (3 : Byte).toNat % 4 = 3 ∧ (0x01 : Byte).toNat % 4 = 1 ∧ 6 < (0x71 : Byte).toNat / 16 ∧
    (∀ w ∈ [(0x60 : Byte), 0x63], w.toNat % 16 ≠ 1 ∧ w.toNat % 16 ≠ 2) ∧ 15 < (16 : Byte).toNat ∧
    1 < (0x09 : Byte).toNat / 4 % 4 ∧ 1 < (0x21 : Byte).toNat / 16 % 4 ∧
    (slots .ready).fresh 1 0x11 (args 47 2 0 0 0) ∧ 2 ≤ (2 : Byte).toNat := by decide +kernel

theorem witness_ResyncRenumbersAndFlushEmpties :
    (holding (waiting 31) 31 none (slots .running)).serves 3 48 0 ∧
    (holding (waiting 31) 31 none (slots .running)).fresh 1 0x18 (args 255 0 0 0 0) ∧
    (holding (waiting 31) 31 none (slots .running)).fresh 1 0x19 (args 0 0 0 0 0) := by decide +kernel

theorem witness_LineRequestsWriteAndRead :
    (slots .ready).serves 3 48 0 ∧ (slots .ready).fresh 1 0x20 (args 23 3 7 2 1) ∧ (slots .ready).node.state = .ready ∧
    (slots .ready).scanner.enabled = false ∧ (23 : Byte).toNat = (23 : Fin 24).val ∧
    lineEntryOf 3 7 2 1 = some (.contact 7 .down .activeLow) ∧ lineEntryOf 3 8 2 1 = none ∧
    (slots .ready).fresh 1 0x21 (args 23 0 0 0 0) := by decide +kernel

/-- Interval and D at both ends and past them, contact 7 at F 15, and parts, senses and F out of range. -/
theorem witness_ScanSetWritesItsPart :
    (slots .ready).serves 3 48 0 ∧ (slots .ready).fresh 1 0x28 (args 0 32 15 0 0) ∧ (slots .ready).scanner.enabled = false ∧
    (∀ a ∈ [args 0 1 1 0 0, args 0 32 15 0 0], 1 ≤ a.a1.toNat ∧ a.a1.toNat ≤ 32 ∧ 1 ≤ a.a2.toNat ∧ a.a2.toNat ≤ 15) ∧
    ¬((args 0 33 15 0 0).a1.toNat ≤ 32) ∧ (7 : Byte).toNat = (7 : Fin 8).val ∧ (4 : Byte) = Sense.whileActive.code ∧
    (15 : Byte).toNat ≤ 15 ∧ ¬(2 ≤ ((slots .ready).contacts.get 7).queued) ∧ 2 ≤ (2 : Byte).toNat ∧
    (7 : Byte).toNat < 8 ∧ 5 ≤ (5 : Byte).toNat ∧ 16 ≤ (16 : Byte).toNat := by decide +kernel

theorem witness_ScanReadsShowKeysAndContacts :
    (slots .ready).serves 3 48 0 ∧ (slots .ready).fresh 1 0x29 (args 0 0 0 0 0) ∧ (slots .ready).fresh 1 0x29 (args 1 7 0 0 0) ∧
    (7 : Byte).toNat = (7 : Fin 8).val ∧ (slots .ready).fresh 1 0x2A (args 7 0 0 0 0) ∧ keyRow 63 = (7 : Fin 8).val ∧
    (slots .ready).fresh 1 0x2B (args 0 0 0 0 0) ∧ (slots .ready).fresh 1 0x29 (args 2 0 0 0 0) ∧ 2 ≤ (2 : Byte).toNat := by
  decide +kernel

theorem witness_EffectMemoryRequests :
    (let s := { (slots .ready) with
      engine := { exampleEngine with channels := setAt Engine.reset.channels 5 (playing 3 0 0 50 2 50) } }
     s.serves 3 48 0 ∧ s.fresh 1 0x30 (args 31 120 8 0 0) ∧ (31 : Byte).toNat = (31 : Fin 32).val ∧
     effectRecordOf 120 8 0 0 = some { first := 120, count := 8, repeatCount := 0, endAction := .hold 0, notify := false } ∧
     s.engine.inPlay 31 = false ∧ effectRecordOf 121 8 0 0 = none ∧ s.fresh 1 0x32 (args 127 0 0 0 0) ∧
     (127 : Byte).toNat = (127 : Fin 128).val ∧ s.engine.segmentInUse 127 = false ∧ s.fresh 1 0x31 (args 31 0 0 0 0) ∧
     32 ≤ (32 : Byte).toNat ∧ s.fresh 1 0x33 (args 127 0 0 0 0) ∧ 128 ≤ (128 : Byte).toNat) := by decide +kernel

theorem witness_ChannelRequests :
    (slots .ready).serves 3 48 0 ∧ (15 : Byte).toNat = (15 : Fin 16).val ∧ (slots .ready).fresh 1 0x38 (args 15 2 31 0 0) ∧
    (2 : Byte) = (FallbackMode.effect 31).code ∧ (31 : Byte) = (FallbackMode.effect 31).value ∧ 3 ≤ (3 : Byte).toNat ∧
    32 ≤ (32 : Byte).toNat ∧ (slots .ready).fresh 1 0x39 (args 15 1 0 0 0) ∧ 2 ≤ (2 : Byte).toNat ∧
    (slots .ready).fresh 1 0x3A (args 15 1 2 31 0) ∧ (31 : Byte).toNat = (31 : Fin 32).val ∧ (254 : Byte).toNat ≤ 254 ∧
    (1 : Byte) ≠ 0 := by decide +kernel

/-! ### The whole machine -/

theorem witness_CheckFindsOneChangedByte :
    (8 : Nat) < [0x04, 0x03, 0x01, 0x02, 0x00, 0x00, 0x00, 0x00, (0x00 : Byte)].length ∧ (0x00 : Byte) ≠ 0xFF := by decide

/-- A container filled, and a request answered. -/
theorem witness_SlotsAreAlteredOnlyByOfferOrReply :
    after (.slotArrival (requestSlot 3 1 0x07 (args 0 0 0 0 0)) noPins) (slots .running)
      (fun t => t.port.loopOut = .part (.slot (replySlot 3 1 .ok { d0 := 20, d1 := 8, d2 := 4, d3 := 3, d4 := 2 }))) = true ∧
    after (.slotArrival (makeSlot .container 0xFF (payload 0 0 0 0)) noPins)
      (holding (waiting 1) 1 none (mapped 0 .offer (slots .running)))
      (fun t => (sentSlot t).any (fun b => b.tag = 3 && b.kind = 0x02)) = true := by decide +kernel

/-- A NODE RESET that an end mark settles, and a BLOCK RESET naming SLOT_MAP alone, clear an OFFER at entry 47. -/
theorem witness_ActiveMapChangesAsAWhole :
    (∀ c ∈ [(.endMark [] : Instr), .blockReset 3 1 (args 8 0 0 0 0)],
      after c { mapped 47 .offer (slots .ready) with node := { ctl .ready with resetDue := !blockResetOfMap c } }
        (fun t => t.map.active = Vector.replicate 48 .pass) = true ∧ (settlesReset c || blockResetOfMap c) = true) := by
  decide +kernel

/-- A running node with reports SENT and WAITING, a contact held, keys down and a channel playing meets every invariant, and
a step from it has a next state. -/
def busy : State :=
  { (lastSlot .running) with
    pending := [.indicatorTick]
    queue := { Queue.reset with
      reports := [report 254 .commitDone .sent, report 255 (.contact 2 true) .sent, report 0 (.keyDown 0) .waiting],
      nextSeq := 1, ackTimer := some 3 }
    lines := { LineMap.reset with entries := setAt (setAt LineMap.reset.entries 0 (.row 0)) 1 (.column 0) }
    scanner := { Scanner.reset with
      enabled := true, rowLines := [0], columnLines := [1], passTimer := some 2, keys := setAt allKeysUp 0 .down,
      pass := some { column := 1, closed := 1 } }
    contacts := setAt State.reset.contacts 2
      { Contact.reset with sense := .whileActive, filtered := .active, lastRaw := true, held := true, queued := 1 }
    engine := { exampleEngine with channels := setAt Engine.reset.channels 5 (playing 3 1 0 200 1 0) } }

theorem witness_invariants_port :
    SupplyInv busy ∧ PortInv busy ∧ FrameEventInv busy ∧ FrameEventInv (slots .running) ∧ NodeInv busy ∧ MapInv busy ∧
    AgentInv busy := by decide +kernel

/-- A commit pending before the first slot of a NORMAL frame breaks the frame event's invariant. -/
theorem test_frame_event_invariant_can_fail : ¬FrameEventInv (commitAtTimeout (.slots 48 0 (some .normal))) := by
  decide +kernel

theorem witness_invariants_queue : QueueInv busy := by decide +kernel

theorem witness_invariants_contacts : ContactInv busy := by decide +kernel

theorem witness_invariants_scanner : ScannerInv busy := by decide +kernel

theorem witness_invariants_engine : EngineInv busy := by decide +kernel

theorem witness_a_step_from_busy :
    (match step busy with
      | .next t => t.engine.channels.get 5 = playing 4 0 0 0 1 0 && t.queue.reports.length = 4
      | .fault _ => false
      | .refused _ => false) = true := by decide +kernel

end Sys2Proof.Tests
end

section
/-! What the blocks behind the loop port do to the node controller, the slot map, the token cache and the port, said once: a step is
a run of the moves below, and each invariant of these blocks is one check per move. -/

namespace Sys2Proof.Machine

/-! ## What the other blocks leave -/

/-- `t` differs from `s` in the queue, the lines, the scanner, the contacts, the engine, the counters and the free index alone. -/
structure SameControl (s t : State) : Prop where
  phase : t.phase = s.phase
  resetPinLow : t.resetPinLow = s.resetPinLow
  port : t.port = s.port
  node : t.node = s.node
  map : t.map = s.map
  agent : t.agent = s.agent
  pending : t.pending = s.pending

namespace SameControl

theorem refl (s : State) : SameControl s s := ⟨rfl, rfl, rfl, rfl, rfl, rfl, rfl⟩

theorem trans {s t u : State} (h : SameControl s t) (h' : SameControl t u) : SameControl s u :=
  ⟨h'.phase.trans h.phase, h'.resetPinLow.trans h.resetPinLow, h'.port.trans h.port, h'.node.trans h.node,
    h'.map.trans h.map, h'.agent.trans h.agent, h'.pending.trans h.pending⟩

theorem foldl {α : Type} {f : State → α → State} (h : ∀ s x, SameControl s (f s x)) (xs : List α) (s : State) :
    SameControl s (xs.foldl f s) := by
  induction xs generalizing s with
  | nil => exact refl s
  | cons x xs ih => exact (h s x).trans (ih (f s x))

theorem ite {s t u : State} {c : Prop} [Decidable c] (h : SameControl s t) (h' : SameControl s u) :
    SameControl s (if c then t else u) := by
  split <;> assumption

theorem withQueue (s : State) (x : Queue) : SameControl s (s.withQueue x) := ⟨rfl, rfl, rfl, rfl, rfl, rfl, rfl⟩
theorem withLines (s : State) (x : LineMap) : SameControl s (s.withLines x) := ⟨rfl, rfl, rfl, rfl, rfl, rfl, rfl⟩
theorem withScanner (s : State) (x : Scanner) : SameControl s (s.withScanner x) := ⟨rfl, rfl, rfl, rfl, rfl, rfl, rfl⟩
theorem withContacts (s : State) (x : Vector Contact 8) : SameControl s (s.withContacts x) :=
  ⟨rfl, rfl, rfl, rfl, rfl, rfl, rfl⟩
theorem withEngine (s : State) (x : Engine) : SameControl s (s.withEngine x) := ⟨rfl, rfl, rfl, rfl, rfl, rfl, rfl⟩
theorem withFreeIndex (s : State) (x : Nat) : SameControl s (s.withFreeIndex x) := ⟨rfl, rfl, rfl, rfl, rfl, rfl, rfl⟩
theorem bump (n : Fin 10) (s : State) : SameControl s (bump n s) := ⟨rfl, rfl, rfl, rfl, rfl, rfl, rfl⟩
theorem clearCounter (n : Fin 10) (s : State) : SameControl s (clearCounter n s) := ⟨rfl, rfl, rfl, rfl, rfl, rfl, rfl⟩
theorem tookChoice (s : State) : SameControl s (tookChoice s) := withFreeIndex s _
theorem goBack (s : State) : SameControl s (goBack s) := withQueue s _

/-! ### Queue and contacts -/

theorem enqueueOnly (b : ReportBody) (s : State) : SameControl s (enqueueOnly b s) := by
  rw [enqueueOnly_eq]
  exact ⟨rfl, rfl, rfl, rfl, rfl, rfl, rfl⟩

theorem queueFrameEvent (s : State) : SameControl s (queueFrameEvent s) := by
  rw [queueFrameEvent_eq]
  exact ⟨rfl, rfl, rfl, rfl, rfl, rfl, rfl⟩

theorem offer (tag : Byte) (s : State) : SameControl s (offer tag s).1 := by
  unfold Machine.offer
  split
  · split
    · exact withQueue s _
    · exact refl s
  · exact refl s

theorem enqueueContact (i : Fin 8) (active level : Bool) (s : State) : SameControl s (enqueueContact i active level s) := by
  rw [enqueueContact_eq]
  exact ⟨rfl, rfl, rfl, rfl, rfl, rfl, rfl⟩

theorem contactRemoval (i : Fin 8) (s : State) : SameControl s (contactRemoval i s) := by
  rw [contactRemoval_eq]
  exact ⟨rfl, rfl, rfl, rfl, rfl, rfl, rfl⟩

theorem contactRemovals (rs : List Report) (s : State) : SameControl s (contactRemovals rs s) := by
  induction rs generalizing s with
  | nil => exact refl s
  | cons r rs ih =>
    unfold Machine.contactRemovals
    split
    · exact (contactRemoval _ s).trans (ih _)
    all_goals exact ih s

theorem acknowledge (seq : Byte) (s : State) : SameControl s (acknowledge seq s) := by
  unfold Machine.acknowledge
  split
  · exact bump _ s
  · exact (withQueue s _).trans (contactRemovals _ _)

theorem ackPair (position seq : Byte) (s : State) : SameControl s (ackPair position seq s) :=
  ite (acknowledge seq s) (refl s)

theorem ackList (p : Payload) (s : State) : SameControl s (ackList p s) :=
  ((ackPair _ _ s).trans (ackPair _ _ _)).trans (ackPair _ _ _)

theorem queueEmptied (s : State) : SameControl s (queueEmptied s) := withContacts s _

theorem resetQueueBlock (s : State) : SameControl s (resetQueueBlock s) := (withQueue s _).trans (queueEmptied _)

/-! ### Scanner and engine -/

theorem disableScanner (clearHeld : Bool) (s : State) : SameControl s (disableScanner clearHeld s) :=
  (withScanner s _).trans (withContacts _ _)

theorem takePassReport (s : State) (r : PassReport) : SameControl s (takePassReport s r) := by
  cases r with
  | key b => exact enqueueOnly b s
  | contact i active level => exact enqueueContact i active level s

theorem completePass (v : PinView) (p : Pass) (s : State) : SameControl s (completePass v p s) :=
  (((withScanner s _).trans (withContacts _ _)).trans (withFreeIndex _ _)).trans (foldl takePassReport _ _)

theorem advanceChannel (ch : Fin 16) (s : State) : SameControl s (advanceChannel ch s) := by
  rw [advanceChannel_eq]
  exact ⟨rfl, rfl, rfl, rfl, rfl, rfl, rfl⟩

theorem tickChannels (s : State) : SameControl s (tickChannels s) := foldl (fun s ch => advanceChannel ch s) _ s

theorem startScanner (s : State) : SameControl s (startScanner s) := ite (refl s) (withScanner s _)

end SameControl

/-! ## The moves -/

/-- What the node controller does to its own state (R19 to R32, R189). -/
inductive NodeMove (n : NodeCtl) : NodeCtl → Prop
  | reset : NodeMove n .reset
  | silenceRestarted (h : n.state = .running) : NodeMove n { n with silenceTimer := some 0 }
  | resumed (h : n.state = .fallback) : NodeMove n { n.leave with state := .running, silenceTimer := some 0 }
  | started (h : n.state = .ready) : NodeMove n { n with state := .running, silenceTimer := some 0 }
  | stopped (h : n.state = .running ∨ n.state = .fallback) : NodeMove n { n.leave with state := .ready }
  | fellBack (h : n.state = .running) :
    NodeMove n { n with state := .fallback, silenceTimer := none, outageTimer := 1 }
  | outageStepped (h : n.state = .fallback) : NodeMove n { n with outageTimer := satInc n.outageTimer }
  | unaddressed : NodeMove n { n.leave with state := .unaddressed, position := none, epoch := none }
  | positioned {p : Byte} (e : Byte) (h : 1 ≤ p.toNat ∧ p.toNat ≤ 60) :
    NodeMove n { n.leave with state := .ready, position := some p, epoch := some e }
  | timeoutSet {x : Byte} (h : 2 ≤ x.toNat ∧ x.toNat ≤ 250) : NodeMove n { n with silenceTimeout := x }
  | startJudged (x : Option (StartReason × Line)) : NodeMove n { n with startRefused := x }
  | resetArranged : NodeMove n { n with resetDue := true }

/-- What the slot map does to its own state (R43, R48, R49, R51 to R53, R57). -/
inductive MapMove (m : SlotMap) : SlotMap → Prop
  | reset : MapMove m .reset
  | cleared : MapMove m { m with lastValues := noLastValues }
  | stored {i : Fin 48} {t : TakeEntry} (p : Payload) (h : m.active.get i = .take t) :
    MapMove m { m with lastValues := setAt m.lastValues i (some (t.extract p)) }
  | staged (i : Fin 48) (e : MapEntry) (h : m.commitPending = false) :
    MapMove m { m with staging := setAt m.staging i e }
  | asked (h : m.badEntry? = none) : MapMove m { m with commitPending := true }
  | committed (h : m.commitPending = true) : MapMove m m.commit

/-- An entry the token cache may hold (R172). -/
abbrev CacheEntry.wellMade (e : CacheEntry) : Prop := e.token ≠ 0 ∧ (e.status = .ok ∨ e.status = .pending)

/-- One move of the blocks behind the loop port. -/
inductive BlockMove (s : State) : State → Prop
  | rest {t : State} (h : SameControl s t) : BlockMove s t
  | node {n : NodeCtl} (h : NodeMove s.node n) : BlockMove s (s.withNode n)
  | map {m : SlotMap} (h : MapMove s.map m) : BlockMove s (s.withMap m)
  | agent {a : Agent} (h : ∀ e ∈ a.cache, e.wellMade) : BlockMove s (s.withAgent a)

/-- What the blocks behind the loop port do: a run of their moves. -/
abbrev BlockMoves : State → State → Prop := Relation.ReflTransGen BlockMove

/-- What the loop port does to its own state in operation (R1, R2, R5, R10 to R13, R17). -/
inductive PortMove (p : Port) : Port → Prop
  | sent (x : LoopPart) : PortMove p { p with loopOut := .part x }
  | headerBad (h : p.frame = .header) : PortMove p p.badHeader
  | headerGood : PortMove p { p with link := .locked, badRun := 0 }
  | framed {f : FrameRecord} (h : frameFits p.link f = true) : PortMove p { p with frame := f }
  | slotPassed {count : Byte} {index : Nat} {d : Option FrameKind} (h : p.frame = .slots count index d)
    (hi : index < count.toNat) : PortMove p { p with frame := .slots count (index + 1) d }
  | timerRestarted : PortMove p { p with markTimer := 0 }
  | timerRested : PortMove p { p with markTimer := markLimit }
  | linkLost : PortMove p { p.search with markTimer := markLimit, frame := p.frame.abandon }
  | searchesCleared : PortMove p { p with searchCount := 0 }

/-- One move of a node in operation: of its loop port or of the blocks behind it. -/
inductive Move (s : State) : State → Prop
  | port {p : Port} (hs : s.phase = .operating) (h : PortMove s.port p) : Move s (s.withPort p)
  | block {t : State} (h : BlockMove s t) : Move s t

/-- What a command makes of a node in operation: a run of moves. -/
abbrev Moves : State → State → Prop := Relation.ReflTransGen Move

theorem SameControl.moves {s t : State} (h : SameControl s t) : BlockMoves s t := .single (.rest h)

theorem BlockMoves.toMoves {s t : State} (h : BlockMoves s t) : Moves s t :=
  Relation.ReflTransGen.mono (fun _ _ => .block) _ _ h

theorem BlockMoves.port {s t : State} (h : BlockMoves s t) : t.port = s.port := by
  induction h with
  | refl => rfl
  | tail _ hm ih =>
    rw [← ih]
    cases hm with
    | rest h => exact h.port
    | node _ => rfl
    | map _ => rfl
    | agent _ => rfl

/-- What a single move keeps, a run of moves keeps. -/
theorem Moves.keeps {P : State → Prop} (hP : ∀ s t, Move s t → P s → P t) {s t : State} (h : Moves s t) (hs : P s) : P t := by
  induction h with
  | refl => exact hs
  | tail _ hm ih => exact hP _ _ hm ih

/-- No move leaves operation, moves the RESET pin or touches the commands that wait. -/
theorem Move.supply {s t : State} (h : Move s t) :
    t.phase = s.phase ∧ t.resetPinLow = s.resetPinLow ∧ t.pending = s.pending := by
  cases h with
  | port _ _ => exact ⟨rfl, rfl, rfl⟩
  | block h =>
    cases h with
    | rest h => exact ⟨h.phase, h.resetPinLow, h.pending⟩
    | node _ => exact ⟨rfl, rfl, rfl⟩
    | map _ => exact ⟨rfl, rfl, rfl⟩
    | agent _ => exact ⟨rfl, rfl, rfl⟩

theorem Moves.phase {s t : State} (h : Moves s t) : t.phase = s.phase :=
  h.keeps (P := fun u => u.phase = s.phase) (fun _ _ hm hs => hm.supply.1.trans hs) rfl

end Sys2Proof.Machine
end

section
/-! What each operation behind the loop port is as a run of moves: resets, the node controller's changes of state, the slot map's takes
and commits, and the 27 requests. -/

namespace Sys2Proof.Machine

open Relation (ReflTransGen)

namespace BlockMoves

theorem trans {s t u : State} (h : BlockMoves s t) (h' : BlockMoves t u) : BlockMoves s u := ReflTransGen.trans h h'

theorem node {s : State} {n : NodeCtl} (h : NodeMove s.node n) : BlockMoves s (s.withNode n) := .single (.node h)

theorem map {s : State} {m : SlotMap} (h : MapMove s.map m) : BlockMoves s (s.withMap m) := .single (.map h)

theorem agent {s : State} {a : Agent} (h : ∀ e ∈ a.cache, e.wellMade) : BlockMoves s (s.withAgent a) := .single (.agent h)

/-- The node controller, the slot map and the cache at their reset values (R37, R59, R191). -/
theorem resetBlocks (s : State) : BlockMoves s (((s.withNode .reset).withMap .reset).withAgent .reset) :=
  ((node .reset).trans (map .reset)).trans (agent (by simp [Agent.reset]))

/-! ## Leaving a state, entering a state -/

theorem clearLastValues (s : State) : BlockMoves s (clearLastValues s) := map .cleared

/-- Leaving for UNADDRESSED is a move of the node controller, with the queue's go-back (R22 to R24). -/
theorem becomeUnaddressed (s : State) : BlockMoves s (becomeUnaddressed s) := by
  rw [becomeUnaddressed_eq]
  exact (node (s := s) .unaddressed).trans (SameControl.withQueue _ (queueOnLeaving s.node s.queue)).moves

theorem becomeReady {position : Byte} (h : 1 ≤ position.toNat ∧ position.toNat ≤ 60) (epoch : Byte) (s : State) :
    BlockMoves s (becomeReady position epoch s) := by
  rw [becomeReady_eq]
  exact (node (s := s) (.positioned epoch h)).trans (SameControl.withQueue _ (queueOnLeaving s.node s.queue)).moves

theorem emptyCache (s : State) : BlockMoves s (emptyCache s) := agent (by simp)

theorem enumerate (hop epoch : Byte) (s : State) : BlockMoves s (enumerate hop epoch s).1 := by
  unfold Machine.enumerate
  split
  · exact .refl
  · split
    · rename_i h
      exact (becomeReady h epoch s).trans (emptyCache _)
    · exact (becomeUnaddressed s).trans (emptyCache _)

theorem startNode {s : State} (h : s.node.state = .ready) : BlockMoves s (startNode s) := by
  have hn : (startScanner s).node = s.node := (SameControl.startScanner s).node
  have hr : NodeMove (startScanner s).node
      { (startScanner s).node with state := .running, silenceTimer := some 0 } := .started (by rw [hn, h])
  exact (((SameControl.startScanner s).moves.trans (node hr)).trans (clearLastValues _)).trans (node (.startJudged none))

/-- Leaving and the scanner's disable are not moves by themselves; together with the entry into READY they are STOP (R30). -/
theorem stopNode {s : State} (h : s.node.state = .running ∨ s.node.state = .fallback) : BlockMoves s (stopNode s) := by
  have hstop : BlockMoves s (s.withNode { s.node.leave with state := .ready }) := node (.stopped h)
  refine hstop.trans (SameControl.moves ?_)
  unfold Machine.stopNode
  rw [leaveLoop_eq]
  exact ⟨rfl, rfl, rfl, rfl, rfl, rfl, rfl⟩

theorem enterFallback {s : State} (h : s.node.state = .running) : BlockMoves s (enterFallback s) :=
  (((SameControl.bump _ s).trans (.goBack _)).trans (.withEngine _ _)).moves.trans (node (.fellBack h))

/-! ## Headers -/

theorem mapFrameEvent (s : State) : BlockMoves s (mapFrameEvent s) := by
  cases h : s.map.commitPending
  · rw [mapFrameEvent_of_not h]
  · rw [mapFrameEvent_of_pending h]
    exact (map (.committed h)).trans (SameControl.enqueueOnly _ _).moves

theorem queueFrameEvent (s : State) : BlockMoves s (queueFrameEvent s) := (SameControl.queueFrameEvent s).moves

theorem tookChoice (s : State) : BlockMoves s (tookChoice s) := (SameControl.tookChoice s).moves

theorem frameEvent (s : State) : BlockMoves s (frameEvent s) := by
  unfold Machine.frameEvent
  split
  · split
    · exact ((tookChoice s).trans (mapFrameEvent _)).trans (queueFrameEvent _)
    · exact ((tookChoice s).trans (queueFrameEvent _)).trans (mapFrameEvent _)
  · exact (mapFrameEvent s).trans (queueFrameEvent _)

theorem resumeLoop {s : State} (h : s.node.state = .fallback) : BlockMoves s (resumeLoop s) :=
  (node (.resumed h)).trans (clearLastValues _)

theorem returnFromFallback {s : State} (h : s.node.state = .fallback) : BlockMoves s (returnFromFallback s) := by
  unfold Machine.returnFromFallback
  split
  · have hr : BlockMoves s (Machine.resumeLoop (Machine.tookChoice s)) :=
      (tookChoice s).trans (resumeLoop (s := Machine.tookChoice s) h)
    split
    · exact (hr.trans (SameControl.enqueueOnly _ _).moves).trans (frameEvent _)
    · exact (hr.trans (frameEvent _)).trans (SameControl.enqueueOnly _ _).moves
  · exact ((resumeLoop h).trans (SameControl.enqueueOnly _ _).moves).trans (frameEvent _)

theorem ownEpochFrame (s : State) : BlockMoves s (ownEpochFrame s) := by
  unfold Machine.ownEpochFrame
  split
  · exact .refl
  · exact frameEvent s
  · rename_i h
    exact (node (.silenceRestarted h)).trans (frameEvent _)
  · rename_i h
    exact returnFromFallback h

theorem normalHeader (epoch : Byte) (s : State) : BlockMoves s (normalHeader epoch s) := by
  unfold Machine.normalHeader
  split
  · exact .refl
  · split
    · exact ownEpochFrame s
    · exact (becomeUnaddressed s).trans (SameControl.bump _ _).moves

theorem headerArrivalAt (k : FrameKind) (h : HeaderBytes) (s : State) : BlockMoves s (headerArrivalAt k h s).1 := by
  have hq : BlockMoves s (queueHeader h.cycle s) := (SameControl.withQueue s _).moves
  cases k with
  | normal => exact hq.trans (normalHeader _ _)
  | enumerate => exact hq.trans (enumerate _ _ _)

/-! ## Slots -/

theorem applyTake (t : TakeEntry) (v : TakeValue) (s : State) : BlockMoves s (applyTake t v s) := by
  unfold Machine.applyTake
  split
  · exact (SameControl.withEngine s _).moves
  · exact (SameControl.bump _ s).moves

theorem dataSlot (index : Nat) (p : Payload) (s : State) : BlockMoves s (dataSlot index p s) := by
  unfold Machine.dataSlot
  split
  · split
    · rename_i i _ t ht
      unfold take
      dsimp only
      split
      · exact .refl
      · exact (map (.stored p ht)).trans (applyTake _ _ _)
    all_goals exact .refl
  · exact .refl

theorem broadcastStart (s : State) : BlockMoves s (broadcastStart s) := by
  unfold Machine.broadcastStart
  split
  · rename_i h
    split
    · exact (node (.startJudged _)).trans (SameControl.bump _ _).moves
    · exact startNode h
  all_goals exact .refl

theorem broadcastStop (s : State) : BlockMoves s (broadcastStop s) := by
  unfold Machine.broadcastStop
  split
  · rename_i h
    exact stopNode (.inl h)
  all_goals exact .refl

theorem broadcast (r : Request) (s : State) : BlockMoves s (broadcast r s) := by
  unfold Machine.broadcast
  split
  · exact broadcastStart s
  · exact broadcastStop s
  · exact node .resetArranged
  · exact .refl

theorem resetMapBlock (s : State) : BlockMoves s (resetMapBlock s) := map .reset

theorem ite {s t u : State} {c : Prop} [Decidable c] (h : BlockMoves s t) (h' : BlockMoves s u) :
    BlockMoves s (if c then t else u) := by
  split <;> assumption

theorem blockReset (b : BlockSet) (s : State) : BlockMoves s (blockReset b s) := by
  have scanner := (SameControl.ite (c := b.scanner) (.disableScanner true s) (.refl s)).moves
  have queue := fun t => (SameControl.ite (c := b.queue) (.resetQueueBlock t) (.refl t)).moves
  have channels := fun t : State => (SameControl.ite (c := b.channels) (.withEngine t t.engine.resetChannels) (.refl t)).moves
  have slotMap := fun t => ite (c := b.slotMap) (resetMapBlock t) .refl
  have effects := fun t : State => (SameControl.ite (c := b.effects) (.withEngine t t.engine.resetEffects) (.refl t)).moves
  exact (((scanner.trans (queue _)).trans (channels _)).trans (slotMap _)).trans (effects _)

end BlockMoves

/-! ## Requests -/

/-- If the request is taken, its status and the state after it satisfy `P`. -/
def Verdict.Takes (P : Status → State → Prop) : Verdict → Prop
  | .refused _ _ => True
  | .taken st _ t => P st t

section
variable {P : Status → State → Prop}

theorem withIndex_takes {n : Nat} {i : Option (Fin n)} {k : Fin n → Verdict} (h : ∀ x, i = some x → (k x).Takes P) :
    (withIndex i k).Takes P := by
  cases i with
  | some x => exact h x rfl
  | none => trivial

theorem withValue_takes {α : Type} {v : Option α} {k : α → Verdict} (h : ∀ x, v = some x → (k x).Takes P) :
    (withValue v k).Takes P := by
  cases v with
  | some x => exact h x rfl
  | none => trivial

theorem require_takes {ok : Bool} {st : Status} {k : Verdict} (h : ok = true → k.Takes P) : (require ok st k).Takes P := by
  cases ok with
  | true => exact h rfl
  | false => trivial

theorem ite_takes {c : Prop} [Decidable c] {k k' : Verdict} (h : k.Takes P) (h' : k'.Takes P) :
    (if c then k else k').Takes P := by
  split <;> assumption

end

/-- What a taken request comes to: OK or PENDING, and moves of the blocks (R167, R172). -/
abbrev Taken (s : State) (st : Status) (t : State) : Prop := (st = .ok ∨ st = .pending) ∧ BlockMoves s t

theorem SameControl.taken {s t : State} (h : SameControl s t) : Taken s .ok t := ⟨.inl rfl, h.moves⟩

/-- A request that only reads is taken with the state unchanged. -/
theorem taken_read (s : State) : Taken s .ok s := (SameControl.refl s).taken

section
variable (a : Args) (s : State)

theorem reqInfo_takes : (reqInfo a s).Takes (Taken s) :=
  ite_takes (taken_read s) (ite_takes (taken_read s) trivial)

theorem reqStatus_takes : (reqStatus a s).Takes (Taken s) :=
  ite_takes (taken_read s) (ite_takes (taken_read s) (ite_takes (taken_read s) trivial))

theorem reqCounter_takes : (reqCounter a s).Takes (Taken s) :=
  withIndex_takes fun n _ => withValue_takes fun _ _ => (SameControl.ite (.clearCounter n s) (.refl s)).taken

theorem reqNodeReset_takes : (reqNodeReset a s).Takes (Taken s) := ⟨.inl rfl, .node .resetArranged⟩

theorem reqBlockReset_takes : (reqBlockReset a s).Takes (Taken s) :=
  withValue_takes fun b _ => ⟨.inl rfl, .blockReset b s⟩

theorem loopSettingsFit_timeout {a : Args} (h : loopSettingsFit a = true) : 2 ≤ a.a0.toNat ∧ a.a0.toNat ≤ 250 := by
  simp only [loopSettingsFit, Bool.and_eq_true, decide_eq_true_eq] at h
  omega

theorem reqLoopSet_takes : (reqLoopSet a s).Takes (Taken s) :=
  require_takes fun _ => require_takes fun h =>
    ⟨.inl rfl, (BlockMoves.node (.timeoutSet (loopSettingsFit_timeout h))).trans (SameControl.withQueue _ _).moves⟩

theorem reqStart_takes : (reqStart a s).Takes (Taken s) := by
  refine require_takes fun h => ?_
  split
  · trivial
  · exact ⟨.inl rfl, .startNode (of_decide_eq_true h)⟩

theorem reqStop_takes : (reqStop a s).Takes (Taken s) :=
  require_takes fun h => ⟨.inl rfl, .stopNode (by simpa using h)⟩

theorem reqMapWrite_takes : (reqMapWrite a s).Takes (Taken s) :=
  withIndex_takes fun i _ => withValue_takes fun e _ => require_takes fun h =>
    ⟨.inl rfl, .map (.staged i e (by simpa using h))⟩

theorem reqMapRead_takes : (reqMapRead a s).Takes (Taken s) :=
  withIndex_takes fun _ _ => withValue_takes fun _ _ => ite_takes (taken_read s) (taken_read s)

theorem reqMapCommit_takes : (reqMapCommit a s).Takes (Taken s) := by
  refine require_takes fun _ => ?_
  split
  · trivial
  · rename_i h
    exact ⟨.inr rfl, .map (.asked h)⟩

theorem reqResync_takes : (reqResync a s).Takes (Taken s) := (SameControl.withQueue s _).taken

theorem reqFlush_takes : (reqFlush a s).Takes (Taken s) := ((SameControl.withQueue s _).trans (.queueEmptied _)).taken

theorem reqLineWrite_takes : (reqLineWrite a s).Takes (Taken s) :=
  require_takes fun _ => withIndex_takes fun _ _ => withValue_takes fun _ _ => (SameControl.withLines s _).taken

theorem reqLineRead_takes (v : PinView) : (reqLineRead v a s).Takes (Taken s) := withIndex_takes fun _ _ => taken_read s

theorem reqScanSet_takes : (reqScanSet a s).Takes (Taken s) := by
  have matrix : (reqScanSetMatrix a s).Takes (Taken s) :=
    require_takes fun _ => require_takes fun _ => (SameControl.withScanner s _).taken
  have contact : (reqScanSetContact a s).Takes (Taken s) :=
    withIndex_takes fun _ _ => withValue_takes fun _ _ => withValue_takes fun _ _ => require_takes fun _ =>
      (SameControl.withContacts s _).taken
  exact ite_takes matrix (ite_takes contact trivial)

theorem reqScanGet_takes : (reqScanGet a s).Takes (Taken s) :=
  ite_takes (taken_read s) (ite_takes (withIndex_takes fun _ _ => taken_read s) trivial)

theorem reqKeysRead_takes : (reqKeysRead a s).Takes (Taken s) := withIndex_takes fun _ _ => taken_read s

theorem reqEffectWrite_takes : (reqEffectWrite a s).Takes (Taken s) :=
  withIndex_takes fun _ _ => withValue_takes fun _ _ => require_takes fun _ => (SameControl.withEngine s _).taken

theorem reqEffectRead_takes : (reqEffectRead a s).Takes (Taken s) := withIndex_takes fun _ _ => taken_read s

theorem reqSegmentWrite_takes : (reqSegmentWrite a s).Takes (Taken s) :=
  withIndex_takes fun _ _ => require_takes fun _ => (SameControl.withEngine s _).taken

theorem reqSegmentRead_takes : (reqSegmentRead a s).Takes (Taken s) := withIndex_takes fun _ _ => taken_read s

theorem reqChannelSet_takes : (reqChannelSet a s).Takes (Taken s) :=
  withIndex_takes fun _ _ => withValue_takes fun _ _ => (SameControl.withEngine s _).taken

theorem reqChannelGet_takes : (reqChannelGet a s).Takes (Taken s) :=
  withIndex_takes fun _ _ => withValue_takes fun _ _ => taken_read s

theorem reqChannelDrive_takes : (reqChannelDrive a s).Takes (Taken s) :=
  withIndex_takes fun _ _ => withValue_takes fun _ _ => withValue_takes fun _ _ => withValue_takes fun _ _ =>
    (SameControl.withEngine s _).taken

end

/-- Whatever the request, if it is taken it is answered OK or PENDING, and what it does is a run of the blocks' moves. -/
theorem serve_takes (r : Request) (v : PinView) (a : Args) (s : State) : (serve r v a s).Takes (Taken s) := by
  cases r with
  | info => exact reqInfo_takes a s
  | status => exact reqStatus_takes a s
  | counter => exact reqCounter_takes a s
  | nodeReset => exact reqNodeReset_takes a s
  | blockReset => exact reqBlockReset_takes a s
  | loopSet => exact reqLoopSet_takes a s
  | loopGet => exact taken_read s
  | start => exact reqStart_takes a s
  | stop => exact reqStop_takes a s
  | mapWrite => exact reqMapWrite_takes a s
  | mapRead => exact reqMapRead_takes a s
  | mapCommit => exact reqMapCommit_takes a s
  | resync => exact reqResync_takes a s
  | flush => exact reqFlush_takes a s
  | lineWrite => exact reqLineWrite_takes a s
  | lineRead => exact reqLineRead_takes a s v
  | scanSet => exact reqScanSet_takes a s
  | scanGet => exact reqScanGet_takes a s
  | keysRead => exact reqKeysRead_takes a s
  | contactsRead => exact taken_read s
  | effectWrite => exact reqEffectWrite_takes a s
  | effectRead => exact reqEffectRead_takes a s
  | segmentWrite => exact reqSegmentWrite_takes a s
  | segmentRead => exact reqSegmentRead_takes a s
  | channelSet => exact reqChannelSet_takes a s
  | channelGet => exact reqChannelGet_takes a s
  | channelDrive => exact reqChannelDrive_takes a s
  | unknown _ => trivial

namespace BlockMoves

/-- A taken request's cache entry is well made (R172). -/
theorem remember (token code : Byte) (a : Args) {st : Status} (h : st = .ok ∨ st = .pending) (d : ReplyData) (s : State) :
    BlockMoves s (remember token code a st d s) := by
  unfold Machine.remember
  split
  · exact .refl
  · rename_i ht
    exact agent (by simpa using ⟨ht, h⟩)

theorem addressed (position token : Byte) (r : Request) (v : PinView) (a : Args) (s : State) :
    BlockMoves s (addressed position token r v a s).1 := by
  unfold Machine.addressed
  split
  · exact .refl
  · split
    · exact (SameControl.bump _ s).moves
    · rename_i st d t hv
      have ht := serve_takes r v a s
      rw [hv] at ht
      obtain ⟨hst, hm⟩ := ht
      exact hm.trans (remember token r.code a hst d t)

theorem mgmtSlot (tag token : Byte) (r : Request) (v : PinView) (a : Args) (s : State) :
    BlockMoves s (mgmtSlot tag token r v a s).1 := by
  unfold Machine.mgmtSlot
  split
  · split
    iterate 3 exact broadcast r s
    exact .refl
  · split
    · split
      iterate 2 exact addressed tag token r v a s
      all_goals exact .refl
    · exact .refl

theorem dispatchSlot (k : SlotKind) (index : Nat) (b : SlotBytes) (v : PinView) (s : State) :
    BlockMoves s (dispatchSlot k index b v s).1 := by
  unfold Machine.dispatchSlot
  cases k with
  | void => exact .refl
  | mgmtReply => exact .refl
  | data =>
    dsimp only
    split
    · exact dataSlot index b.payload s
    · exact .refl
  | container =>
    dsimp only
    split
    · exact (SameControl.offer b.tag s).moves
    · exact .refl
  | ackList =>
    dsimp only
    split
    · exact (SameControl.ackList b.payload s).moves
    · exact .refl
  | mgmt => exact mgmtSlot _ _ _ _ _ s

theorem judgeSlot (b : SlotBytes) (v : PinView) (kind : FrameKind) (index : Nat) (s : State) :
    BlockMoves s (judgeSlot b v kind index s).1 := by
  unfold Machine.judgeSlot
  split
  · exact (SameControl.bump _ s).moves
  · split
    · exact (SameControl.bump _ s).moves
    · split
      · exact dispatchSlot _ index b v s
      · exact .refl

end BlockMoves

end Sys2Proof.Machine
end

section
/-! What each command is as a run of moves: the loop port's handling of a part, and every command but those of the supply and the RESET
pin. A request's row is the arrival of the slot that carries it, so a case split over the commands has one case for all requests. -/

namespace Sys2Proof.Machine

open Relation (ReflTransGen)

/-! ## A request's row is its slot's arrival (entry 8) -/

/-- A request's slot has a good check (R192). -/
theorem requestSlot_good (tag token code : Byte) (a : Args) : goodSlot (requestSlot tag token code a) := rfl

/-- The request that a row carries is handled as the MGMT slot that spells it, if its code names it. -/
theorem requestCommand_eq_slot (tag token : Byte) {r : Request} (hr : Request.ofCode r.code = r) (v : PinView) (a : Args)
    (s : State) :
    Host.Outcome.next (requestCommand tag token r v a s) = execSlotArrival (requestSlot tag token r.code a) v s := by
  have hj : (fun kind (_ : Nat) s => requestArrives tag token r v a kind s) =
      judgeSlot (requestSlot tag token r.code a) v := by
    funext kind index s
    have hk : SlotKind.ofCode (requestSlot tag token r.code a).kind = some .mgmt := slotKind_ofCode_code .mgmt
    cases kind with
    | normal =>
      rw [judgeSlot_normal (requestSlot_good ..) hk]
      simp only [dispatchSlot, requestSlot, makeSlot, hr]
      rfl
    | enumerate => rw [judgeSlot_enumerate (requestSlot_good ..) hk]; rfl
  unfold requestCommand execSlotArrival
  rw [hj]

/-- A code names the request it is read as. -/
theorem ofCode_code_ofCode (c : Byte) : Request.ofCode (Request.ofCode c).code = Request.ofCode c := by
  rw [request_code_ofCode]

theorem exec_eq_slot_of_requestCommand {c : Instr} {tag token : Byte} {r : Request} {v : PinView} {a : Args}
    (hr : Request.ofCode r.code = r) (hc : ∀ s, exec c s = .next (requestCommand tag token r v a s)) :
    ∃ b v, ∀ s, exec c s = exec (.slotArrival b v) s :=
  ⟨_, v, fun s => (hc s).trans (requestCommand_eq_slot tag token hr v a s)⟩

/-- Every row for a request runs as the arrival of some slot. -/
theorem exec_request_eq_slot {c : Instr} {r : Request} (h : c.request? = some r) :
    ∃ b v, ∀ s, exec c s = exec (.slotArrival b v) s := by
  cases c with
  | unknownRequest tag token code a => exact exec_eq_slot_of_requestCommand (ofCode_code_ofCode code) fun _ => rfl
  | info | status | counter | nodeReset | blockReset | loopSet | loopGet | start | stop | mapWrite | mapRead | mapCommit
  | resync | flush | lineWrite | lineRead | scanSet | scanGet | keysRead | contactsRead | effectWrite | effectRead
  | segmentWrite | segmentRead | channelSet | channelGet | channelDrive =>
    exact exec_eq_slot_of_requestCommand (request_ofCode_known _ (by decide)) fun _ => rfl
  | _ => cases h

/-! ## The loop port -/

namespace Moves

theorem trans {s t u : State} (h : Moves s t) (h' : Moves t u) : Moves s u := ReflTransGen.trans h h'

theorem port {s : State} {p : Port} (hs : s.phase = .operating) (h : PortMove s.port p) : Moves s (s.withPort p) :=
  .single (.port hs h)

/-- A run of moves followed by one of the port. -/
theorem thenPort {s t : State} {p : Port} (hs : s.phase = .operating) (h : Moves s t) (hp : PortMove t.port p) :
    Moves s (t.withPort p) := h.trans (port (h.phase.trans hs) hp)

/-- NODE RESET: the port's search count, the node controller, the slot map and the cache, and the other blocks (R17). -/
theorem nodeReset {s : State} (hs : s.phase = .operating) : Moves s (nodeReset s) := by
  have hport : Moves s (s.withPort { s.port with searchCount := 0 }) := port hs .searchesCleared
  have hrest : SameControl
      ((((s.withPort { s.port with searchCount := 0 }).withNode .reset).withMap .reset).withAgent .reset)
      (Machine.nodeReset s) := ⟨rfl, rfl, rfl, rfl, rfl, rfl, rfl⟩
  exact (hport.trans (BlockMoves.resetBlocks _).toMoves).trans hrest.moves.toMoves

theorem settleReset {s : State} (hs : s.phase = .operating) : Moves s (settleReset s) := by
  unfold Machine.settleReset
  split
  · exact nodeReset hs
  · exact .refl

theorem sendOn {s : State} (hs : s.phase = .operating) (x : LoopPart) : Moves s (sendOn x s) := port hs (.sent x)

theorem setFrame {s : State} (hs : s.phase = .operating) {f : FrameRecord} (h : frameFits s.port.link f = true) :
    Moves s (setFrame f s) := port hs (.framed h)

theorem badHeader {s : State} (hs : s.phase = .operating) (h : s.port.frame = .header) : Moves s (badHeader s) :=
  (port hs (.headerBad h)).trans (SameControl.bump _ _).moves.toMoves

theorem closeFrame {s : State} (hs : s.phase = .operating) : Moves s (closeFrame s) := by
  unfold Machine.closeFrame
  split
  · exact .refl
  · rename_i h
    exact badHeader hs h
  · split
    · exact (SameControl.bump _ s).moves.toMoves
    · exact .refl
  · exact .refl

theorem startMarkArrives {s : State} (hs : s.phase = .operating) (tail : List Byte) :
    Moves s (startMarkArrives tail s) :=
  (((closeFrame hs).thenPort hs (.framed rfl)).thenPort hs (.sent _)).thenPort hs .timerRestarted

theorem endMarkArrives {s : State} (hs : s.phase = .operating) (tail : List Byte) : Moves s (endMarkArrives tail s) :=
  ((closeFrame hs).thenPort hs (.framed rfl)).thenPort hs (.sent _)

/-- A header whose slot count is in range may begin a delivered frame in LOCKED (R1, R2). -/
theorem frameFits_locked {h : HeaderBytes} {k : FrameKind} (hj : judgeHeader h = .delivered k) :
    frameFits .locked (.slots h.slots 0 (some k)) = true := by
  unfold judgeHeader at hj
  split at hj
  · cases hj
  · split at hj
    · cases hj
    · simp [frameFits]
      omega

theorem headerArrives {s : State} (hs : s.phase = .operating) (h : HeaderBytes) : Moves s (headerArrives h s) := by
  unfold Machine.headerArrives
  split
  · rename_i hf
    split
    · exact ((badHeader hs hf).thenPort hs (.framed (by simp [frameFits]))).thenPort hs (.sent _)
    · have counted : Moves s (bump ctrUnknownKinds s) := (SameControl.bump _ s).moves.toMoves
      exact ((counted.thenPort hs .headerGood).thenPort hs (.framed (by simp [frameFits]))).thenPort hs (.sent _)
    · rename_i k hj
      have counted : Moves s (bump ctrGoodFrames s) := (SameControl.bump _ s).moves.toMoves
      have framed := (counted.thenPort hs .headerGood).thenPort hs (.framed (frameFits_locked hj))
      exact (framed.trans (BlockMoves.headerArrivalAt k h _).toMoves).thenPort hs (.sent _)
  · exact sendOn hs _
  · exact sendOn hs _

theorem finishSlot {s : State} (hs : s.phase = .operating) {count : Byte} {index : Nat} {d : Option FrameKind}
    (hf : s.port.frame = .slots count index d) (hi : index < count.toNat) (b : SlotBytes) {r : SlotResult}
    (hr : BlockMoves s r.1) : Moves s (finishSlot count index d b r) := by
  have hp : PortMove r.1.port { r.1.port with frame := .slots count (index + 1) d } := .slotPassed (by rw [hr.port, hf]) hi
  exact (hr.toMoves.thenPort hs hp).thenPort hs (.sent _)

theorem slotArrives {s : State} (hs : s.phase = .operating) (b : SlotBytes) (v : PinView) :
    Moves s (slotArrives b (judgeSlot b v) s) := by
  unfold Machine.slotArrives
  split
  · rename_i hf
    split
    · rename_i hi
      exact finishSlot hs hf hi b (BlockMoves.judgeSlot b v _ _ s)
    · exact sendOn hs _
  · rename_i hf
    split
    · rename_i hi
      exact finishSlot hs hf hi b .refl
    · exact sendOn hs _
  · exact sendOn hs _
  · exact sendOn hs _

theorem markTimerExpires {s : State} (hs : s.phase = .operating) : Moves s (markTimerExpires s) := by
  unfold Machine.markTimerExpires
  split
  · exact .refl
  · split
    · exact port hs .linkLost
    · exact port hs .timerRested

end Moves

/-! ## Every command of a node in operation -/

/-- What a command of a node in operation does: a part of the line stream once a due NODE RESET has been settled, an expiry of one of the
timers, the slot map's part of a frame event, or something that leaves the port, the node controller, the map and the cache. -/
inductive Effect : (State → State) → Prop
  | startMark (tail : List Byte) : Effect fun s => startMarkArrives tail (settleReset s)
  | endMark (tail : List Byte) : Effect fun s => endMarkArrives tail (settleReset s)
  | header (h : HeaderBytes) : Effect fun s => headerArrives h (settleReset s)
  | slot (b : SlotBytes) (v : PinView) : Effect fun s => slotArrives b (judgeSlot b v) (settleReset s)
  | resetTakesPlace : Effect settleReset
  | markTimer : Effect markTimerExpires
  | silence : Effect fun s => if s.node.state = .running then enterFallback s else s
  | outage : Effect fun s =>
    if s.node.state = .fallback then s.withNode { s.node with outageTimer := satInc s.node.outageTimer } else s
  | commit : Effect fun s => if atFrameEvent s then mapFrameEvent s else s
  | other {f : State → State} (h : ∀ s, SameControl s (f s)) : Effect f

/-- Every command but those of the supply and the RESET pin is an effect on a node in operation, and nothing otherwise (R15, R16). -/
theorem exec_effect {c : Instr} (h : isSupplyCommand c = false) :
    ∃ f, Effect f ∧ ∀ s, exec c s = .next (whenOperating f s) := by
  cases hr : c.request? with
  | some r =>
    obtain ⟨b, v, hb⟩ := exec_request_eq_slot hr
    exact ⟨_, .slot b v, hb⟩
  | none =>
    cases c with
    | startMark tail => exact ⟨_, .startMark tail, fun _ => rfl⟩
    | endMark tail => exact ⟨_, .endMark tail, fun _ => rfl⟩
    | headerArrival bytes => exact ⟨_, .header bytes, fun _ => rfl⟩
    | slotArrival b v => exact ⟨_, .slot b v, fun _ => rfl⟩
    | nodeResetTakesPlace => exact ⟨_, .resetTakesPlace, fun _ => rfl⟩
    | markTimerExpiry => exact ⟨_, .markTimer, fun _ => rfl⟩
    | silenceTimerExpiry => exact ⟨_, .silence, fun _ => rfl⟩
    | outageTimerStep => exact ⟨_, .outage, fun _ => rfl⟩
    | commitCarriedOut => exact ⟨_, .commit, fun _ => rfl⟩
    | timeoutGoBack => exact ⟨_, .other fun s => .ite (.withQueue s _) (.refl s), fun _ => rfl⟩
    | passStart => exact ⟨_, .other fun s => .ite (.withScanner s _) (.refl s), fun _ => rfl⟩
    | columnSettled v =>
      refine ⟨_, .other fun s => ?_, fun _ => rfl⟩
      split
      · exact .ite (.withScanner s _) (.refl s)
      · exact .refl s
    | passCompletion v =>
      refine ⟨_, .other fun s => ?_, fun _ => rfl⟩
      split
      · exact .ite (.refl s) (.completePass v _ s)
      · exact .refl s
    | indicatorTick => exact ⟨_, .other .tickChannels, fun _ => rfl⟩
    | glideEnd ch => exact ⟨_, .other fun s => .ite (.advanceChannel ch s) (.refl s), fun _ => rfl⟩
    | segmentEnd ch => exact ⟨_, .other fun s => .ite (.advanceChannel ch s) (.refl s), fun _ => rfl⟩
    | pulseWidthPeriod => exact ⟨_, .other fun s => .withLines s _, fun _ => rfl⟩
    | powerOnReset | pinReset | resetReleased | startUpComplete | powerLoss => cases h
    | _ => cases hr

/-- In operation, whatever a command does is a run of moves. -/
theorem Effect.moves {f : State → State} (h : Effect f) {s : State} (hs : s.phase = .operating) : Moves s (f s) := by
  have settled : Moves s (settleReset s) := .settleReset hs
  have hs' : (settleReset s).phase = .operating := settled.phase.trans hs
  cases h with
  | startMark tail => exact settled.trans (.startMarkArrives hs' tail)
  | endMark tail => exact settled.trans (.endMarkArrives hs' tail)
  | header h => exact settled.trans (.headerArrives hs' h)
  | slot b v => exact settled.trans (.slotArrives hs' b v)
  | resetTakesPlace => exact settled
  | markTimer => exact .markTimerExpires hs
  | silence =>
    dsimp only
    split
    · rename_i h
      exact (BlockMoves.enterFallback h).toMoves
    · exact .refl
  | outage =>
    dsimp only
    split
    · rename_i h
      exact (BlockMoves.node (.outageStepped h)).toMoves
    · exact .refl
  | commit => exact (BlockMoves.ite (.mapFrameEvent s) .refl).toMoves
  | other h => exact (h s).moves.toMoves

/-- A command that is none of the supply and the RESET pin: in operation a run of moves, otherwise nothing. -/
theorem exec_moves {c : Instr} (h : isSupplyCommand c = false) {s t : State} (he : exec c s = .next t) : Moves s t := by
  obtain ⟨f, hf, hc⟩ := exec_effect h
  obtain rfl := Host.Outcome.next.inj ((hc s).symm.trans he)
  by_cases hs : s.phase = .operating
  · rw [whenOperating_of hs]
    exact hf.moves hs
  · rw [whenOperating_of_not hs]

/-- Settles O4: a command is a run of moves in operation and nothing out of it, and no move changes the phase, by which alone BYPASS
is driven. -/
theorem onlySupplyMovesBypass : Obligations.OnlySupplyMovesBypass := by
  intro c s hc
  constructor
  · intro t ht
    have hp : t.phase = s.phase := (exec_moves hc ht).phase
    simp only [State.bypass, hp]
  · intro hs
    obtain ⟨f, -, hf⟩ := exec_effect hc
    rw [hf s, whenOperating_of_not hs]

end Sys2Proof.Machine
end

section
/-! The invariants of the supply, the loop port, the frame event, the node controller, the slot map and the management agent: each is kept by
every move of its own block, and so by every step. -/

namespace Sys2Proof.Machine

/-! ## The commands of the supply and the RESET pin -/

/-- The port, the node controller, the slot map and the cache at their reset values, LOUT apart (R16). -/
structure BlocksReset (t : State) : Prop where
  port : ∃ o, t.port = { Port.reset with loopOut := o }
  node : t.node = .reset
  map : t.map = .reset
  agent : t.agent = .reset

/-- The port, the node controller, the slot map and the cache unchanged. -/
structure BlocksKept (s t : State) : Prop where
  port : t.port = s.port
  node : t.node = s.node
  map : t.map = s.map
  agent : t.agent = s.agent

theorem wholeReset_blocksReset (p : Phase) (s : State) : BlocksReset (wholeReset p s) := ⟨⟨_, rfl⟩, rfl, rfl, rfl⟩

theorem blocksKept_ite {s t u : State} {c : Prop} [Decidable c] (h : BlocksKept s t) (h' : BlocksKept s u) :
    BlocksKept s (if c then t else u) := by
  split <;> assumption

/-- A pin reset resets the blocks or, of an unpowered node or by a short pulse, leaves them (R16). -/
theorem execPinReset_cases {pulse : LowPulse} {s t : State} (h : execPinReset pulse s = .next t) :
    (t = pinResetNow s ∨ t = pinResetNow (tookChoice s)) ∧ s.phase ≠ .unpowered ∨
      t = tookChoice s ∨ t = s ∨ t = s.withResetPinLow true ∧ s.phase = .unpowered := by
  unfold execPinReset at h
  split at h
  · rename_i hp
    exact .inr (.inr (.inr ⟨(Host.Outcome.next.inj h).symm, hp⟩))
  · exact .inr (.inr (.inl (Host.Outcome.next.inj h).symm))
  · rename_i hp
    exact .inl ⟨.inl (Host.Outcome.next.inj h).symm, hp⟩
  · rename_i hp
    obtain rfl := Host.Outcome.next.inj h
    split
    · exact .inl ⟨.inr rfl, hp⟩
    · exact .inr (.inl rfl)

/-- A command of the supply and the RESET pin resets the blocks or leaves them (R15, R16). -/
theorem exec_supply_blocks {c : Instr} (h : isSupplyCommand c = true) {s t : State} (he : exec c s = .next t) :
    BlocksReset t ∨ BlocksKept s t := by
  cases c with
  | powerOnReset =>
    obtain rfl := Host.Outcome.next.inj he
    exact .inl (wholeReset_blocksReset _ s)
  | powerLoss =>
    obtain rfl := Host.Outcome.next.inj he
    exact .inl ⟨⟨_, rfl⟩, rfl, rfl, rfl⟩
  | resetReleased =>
    obtain rfl := Host.Outcome.next.inj he
    exact .inr (blocksKept_ite ⟨rfl, rfl, rfl, rfl⟩ ⟨rfl, rfl, rfl, rfl⟩)
  | startUpComplete =>
    obtain rfl := Host.Outcome.next.inj he
    exact .inr (blocksKept_ite ⟨rfl, rfl, rfl, rfl⟩ ⟨rfl, rfl, rfl, rfl⟩)
  | pinReset pulse =>
    obtain ⟨rfl | rfl, -⟩ | rfl | rfl | ⟨rfl, -⟩ := execPinReset_cases he
    · exact .inl (wholeReset_blocksReset _ _)
    · exact .inl (wholeReset_blocksReset _ _)
    all_goals exact .inr ⟨rfl, rfl, rfl, rfl⟩
  | _ => cases h

/-! ## From commands to steps -/

/-- What every command keeps and the waiting commands do not matter to, a step keeps. -/
theorem step_keeps {P : State → Prop} (hpending : ∀ s x, P s → P (s.withPending x))
    (hexec : ∀ c s t, P s → exec c s = .next t → P t) (s t : State) (hs : P s) (h : step s = .next t) : P t := by
  unfold step at h
  split at h
  · cases h
    exact hs
  · exact hexec _ _ t (hpending s _ hs) h

/-- An invariant of the port, the node controller, the map and the cache is kept by every step when it holds of reset blocks and every
move keeps it. -/
theorem step_keeps_of_moves {P : State → Prop} (hkept : ∀ s t, BlocksKept s t → P s → P t)
    (hreset : ∀ t, BlocksReset t → P t) (hmove : ∀ s t, Move s t → P s → P t) (s t : State) (hs : P s)
    (h : step s = .next t) : P t := by
  refine step_keeps (fun s x => hkept s _ ⟨rfl, rfl, rfl, rfl⟩) (fun c s t hs he => ?_) s t hs h
  cases hc : isSupplyCommand c with
  | false => exact (exec_moves hc he).keeps hmove hs
  | true =>
    rcases exec_supply_blocks hc he with hr | hk
    · exact hreset t hr
    · exact hkept s t hk hs

/-! ## Supply -/

/-- A node that is reset, and held while RESET is low, shows an idle LOUT and asserts BYPASS (R16). -/
theorem supplyInv_wholeReset {p : Phase} {s : State} (hp : p = .heldInReset ∧ s.resetPinLow = true ∨
    p = .starting ∧ s.resetPinLow = false) : SupplyInv (wholeReset p s) := by
  rcases hp with ⟨rfl, hl⟩ | ⟨rfl, hl⟩ <;> simp [SupplyInv, wholeReset, State.bypass, State.reset, Port.reset, hl]

/-- The supply's invariant looks at the phase, the RESET pin and LOUT alone. -/
theorem supplyInv_congr {s t : State} (hp : t.phase = s.phase) (hl : t.resetPinLow = s.resetPinLow)
    (ho : t.port.loopOut = s.port.loopOut) (hs : SupplyInv s) : SupplyInv t := by
  unfold SupplyInv State.bypass at *
  rw [hp, hl, ho]
  exact hs

/-- In operation the port sends a part on or leaves LOUT as it is. -/
theorem PortMove.loopOut {p q : Port} (h : PortMove p q) : q.loopOut = p.loopOut ∨ ∃ x, q.loopOut = .part x := by
  cases h with
  | sent x => exact .inr ⟨x, rfl⟩
  | headerBad _ =>
    unfold Port.badHeader
    split
    · split <;> exact .inl rfl
    · exact .inl rfl
  | _ => exact .inl rfl

theorem supplyInv_move {s t : State} (h : Move s t) (hs : SupplyInv s) : SupplyInv t := by
  obtain ⟨hp, hl, -⟩ := h.supply
  cases h with
  | block h =>
    have hport : t.port = s.port := BlockMoves.port (.single h)
    exact supplyInv_congr hp hl (by rw [hport]) hs
  | @port p ho hm =>
    rcases hm.loopOut with he | ⟨x, he⟩
    · exact supplyInv_congr hp hl he hs
    · obtain ⟨-, hlow, -⟩ := hs
      simp only [SupplyInv, State.bypass, State.withPort_phase, State.withPort_resetPinLow, State.withPort_port, ho, he]
      simp [hlow (.inr ho)]

theorem supplyInv_exec (c : Instr) (s t : State) (hs : SupplyInv s) (he : exec c s = .next t) : SupplyInv t := by
  have held (u : State) : SupplyInv (pinResetNow u) := supplyInv_wholeReset (.inl ⟨rfl, rfl⟩)
  cases hc : isSupplyCommand c with
  | false => exact (exec_moves hc he).keeps (fun _ _ => supplyInv_move) hs
  | true =>
    cases c with
    | powerOnReset =>
      obtain rfl := Host.Outcome.next.inj he
      refine supplyInv_wholeReset ?_
      cases hl : s.resetPinLow <;> simp [phaseAfterReset, hl]
    | powerLoss =>
      obtain rfl := Host.Outcome.next.inj he
      simp [SupplyInv, wholeReset, State.bypass]
    | resetReleased =>
      obtain rfl := Host.Outcome.next.inj he
      obtain ⟨-, -, hidle, hundriven⟩ := hs
      cases hp : s.phase <;> simp_all [SupplyInv, State.bypass]
    | startUpComplete =>
      obtain rfl := Host.Outcome.next.inj he
      obtain ⟨hheld, hlow, hidle, hundriven⟩ := hs
      cases hp : s.phase <;> simp_all [SupplyInv, State.bypass]
    | pinReset pulse =>
      obtain ⟨rfl | rfl, -⟩ | rfl | rfl | ⟨rfl, hp⟩ := execPinReset_cases he
      · exact held s
      · exact held _
      · exact supplyInv_congr rfl rfl rfl hs
      · exact hs
      · obtain ⟨-, -, -, hundriven⟩ := hs
        simp_all [SupplyInv, State.bypass]
    | _ => cases hc

theorem supplyInv_step : ∀ s t : State, SupplyInv s → step s = .next t → SupplyInv t :=
  step_keeps (fun _ _ => supplyInv_congr rfl rfl rfl) supplyInv_exec

/-! ## Loop port -/

theorem portInv_congr {s t : State} (h : t.port = s.port) (hs : PortInv s) : PortInv t := by
  unfold PortInv at *
  rw [h]
  exact hs

/-- Abandoning the open delivered frame leaves a record that may stand in SEARCHING (R13). -/
theorem frameFits_abandon {l : LinkState} {f : FrameRecord} (h : frameFits l f = true) :
    frameFits .searching f.abandon = true := by
  cases f with
  | slots count index d =>
    cases d with
    | none => exact h
    | some _ => rfl
  | _ => rfl

/-- A record that may stand in some link state may stand in LOCKED (R1, R2). -/
theorem frameFits_of_locked {l : LinkState} {f : FrameRecord} (h : frameFits l f = true) : frameFits .locked f = true := by
  cases f with
  | slots count index d =>
    cases d with
    | none => exact h
    | some _ =>
      simp only [frameFits, Bool.and_eq_true, decide_eq_true_eq] at h ⊢
      obtain ⟨⟨⟨-, h1⟩, h48⟩, hi⟩ := h
      exact ⟨⟨⟨trivial, h1⟩, h48⟩, hi⟩
  | _ => rfl

/-- The next slot of a record that fits leaves a record that fits (R1, R3). -/
theorem frameFits_next {l : LinkState} {count : Byte} {index : Nat} {d : Option FrameKind}
    (h : frameFits l (.slots count index d) = true) (hi : index < count.toNat) :
    frameFits l (.slots count (index + 1) d) = true := by
  cases d with
  | none => exact decide_eq_true hi
  | some _ =>
    simp only [frameFits, Bool.and_eq_true, decide_eq_true_eq] at h ⊢
    exact ⟨h.1, hi⟩

theorem portInv_portMove {s : State} {p : Port} (h : PortMove s.port p) (hs : PortInv s) : PortInv (s.withPort p) := by
  obtain ⟨htimer, hrun, hfits⟩ := hs
  cases h with
  | sent _ => exact ⟨htimer, hrun, hfits⟩
  | headerBad hf =>
    unfold Port.badHeader
    split
    · rename_i hl
      split
      · exact ⟨htimer, fun _ => rfl, by simp [Port.search, hf, frameFits]⟩
      · exact ⟨htimer, fun h => by simp [hl] at h, hfits⟩
    · exact ⟨htimer, hrun, hfits⟩
  | headerGood => exact ⟨htimer, fun _ => rfl, frameFits_of_locked hfits⟩
  | framed h => exact ⟨htimer, hrun, h⟩
  | slotPassed hf hi =>
    rw [hf] at hfits
    exact ⟨htimer, hrun, frameFits_next hfits hi⟩
  | timerRestarted => exact ⟨Nat.zero_le _, hrun, hfits⟩
  | timerRested => exact ⟨Nat.le_refl _, hrun, hfits⟩
  | linkLost => exact ⟨Nat.le_refl _, fun _ => rfl, frameFits_abandon hfits⟩
  | searchesCleared => exact ⟨htimer, hrun, hfits⟩

theorem portInv_move {s t : State} (h : Move s t) (hs : PortInv s) : PortInv t := by
  cases h with
  | port _ hm => exact portInv_portMove hm hs
  | block h => exact portInv_congr (BlockMoves.port (.single h)) hs

theorem portInv_reset {t : State} (h : BlocksReset t) : PortInv t := by
  obtain ⟨o, hp⟩ := h.port
  unfold PortInv
  rw [hp]
  exact ⟨Nat.zero_le _, fun _ => rfl, rfl⟩

theorem portInv_step : ∀ s t : State, PortInv s → step s = .next t → PortInv t :=
  step_keeps_of_moves (fun _ _ h => portInv_congr h.port) (fun _ => portInv_reset) (fun _ _ => portInv_move)

/-! ## Node controller -/

/-- The node controller's invariant, of its own state (R19, R26, R31, R36). -/
abbrev NodeCtl.fits (n : NodeCtl) : Prop :=
  (n.position.isSome = true ↔ n.state ≠ .unaddressed) ∧ (n.epoch.isSome = true ↔ n.state ≠ .unaddressed) ∧
  (∀ p ∈ n.position, 1 ≤ p.toNat ∧ p.toNat ≤ 60) ∧ (n.silenceTimer.isSome = true ↔ n.state = .running) ∧
  (n.outageTimer ≠ 0 ↔ n.state = .fallback) ∧ 2 ≤ n.silenceTimeout.toNat ∧ n.silenceTimeout.toNat ≤ 250

/-- What leaving a state keeps and what it stops (R23). -/
theorem leave_keeps (n : NodeCtl) :
    n.leave.state = n.state ∧ n.leave.position = n.position ∧ n.leave.epoch = n.epoch ∧
      n.leave.silenceTimeout = n.silenceTimeout := by
  unfold NodeCtl.leave
  split <;> exact ⟨rfl, rfl, rfl, rfl⟩

/-- After leaving its state no timer of the node controller runs (R23). -/
theorem leave_timers {n : NodeCtl} (h : n.fits) : n.leave.silenceTimer = none ∧ n.leave.outageTimer = 0 := by
  obtain ⟨-, -, -, hsilence, houtage, -⟩ := h
  unfold NodeCtl.leave
  split <;> simp_all

theorem satInc_ne_zero {x : Byte} (h : x ≠ 0) : satInc x ≠ 0 := by
  unfold satInc
  split
  · exact h
  · rename_i hx
    intro h0
    apply hx
    have : x = -1 := by simpa using eq_neg_of_add_eq_zero_left h0
    rw [this]
    rfl

theorem nodeCtl_reset_fits : NodeCtl.reset.fits := by decide

theorem fits_nodeMove {n m : NodeCtl} (h : NodeMove n m) (hn : n.fits) : m.fits := by
  obtain ⟨hstate, hposition, hepoch, htimeout⟩ := leave_keeps n
  obtain ⟨hsilent, hended⟩ := leave_timers hn
  obtain ⟨hp, he, hr, hsilence, houtage, hmin, hmax⟩ := hn
  cases h with
  | reset => exact nodeCtl_reset_fits
  | silenceRestarted h => exact ⟨hp, he, hr, by simp [h], houtage, hmin, hmax⟩
  | resumed h => simp_all [NodeCtl.fits]
  | started h => simp_all [NodeCtl.fits]
  | stopped h => rcases h with h | h <;> simp_all [NodeCtl.fits]
  | fellBack h => simp_all [NodeCtl.fits]
  | outageStepped h =>
    have hne : satInc n.outageTimer ≠ 0 := satInc_ne_zero (houtage.mpr h)
    exact ⟨hp, he, hr, hsilence, ⟨fun _ => h, fun _ => hne⟩, hmin, hmax⟩
  | unaddressed => simp_all [NodeCtl.fits]
  | positioned e h => simp_all [NodeCtl.fits]
  | timeoutSet h => exact ⟨hp, he, hr, hsilence, houtage, h⟩
  | startJudged _ => exact ⟨hp, he, hr, hsilence, houtage, hmin, hmax⟩
  | resetArranged => exact ⟨hp, he, hr, hsilence, houtage, hmin, hmax⟩

theorem nodeInv_congr {s t : State} (h : t.node = s.node) (hs : NodeInv s) : NodeInv t := by
  unfold NodeInv at *
  rw [h]
  exact hs

theorem nodeInv_move {s t : State} (h : Move s t) (hs : NodeInv s) : NodeInv t := by
  cases h with
  | port _ _ => exact hs
  | block h =>
    cases h with
    | rest h => exact nodeInv_congr h.node hs
    | node h => exact fits_nodeMove h hs
    | map _ => exact hs
    | agent _ => exact hs

theorem nodeInv_step : ∀ s t : State, NodeInv s → step s = .next t → NodeInv t :=
  step_keeps_of_moves (fun _ _ h => nodeInv_congr h.node)
    (fun _ h => nodeInv_congr (s := State.reset) h.node nodeCtl_reset_fits)
    (fun _ _ => nodeInv_move)

/-! ## Slot map -/

/-- The slot map's invariant, of its own state (R38, R39, R52). -/
abbrev SlotMap.fits (m : SlotMap) : Prop :=
  (∀ i, (m.active.get i).fits = true) ∧ (m.commitPending = true → ∀ i, (m.staging.get i).fits = true) ∧
  (∀ i, lastValueFits (m.active.get i) (m.lastValues.get i) = true)

/-- Where no last value is held, every last value has its entry's width. -/
theorem lastValueFits_none (e : MapEntry) (i : Fin 48) : lastValueFits e (noLastValues.get i) = true := by
  have : noLastValues.get i = none := by simp [noLastValues, Vector.get_eq_getElem]
  rw [this]
  cases e <;> rfl

/-- An extracted value has the width of its entry (R42). -/
theorem lastValueFits_extract (t : TakeEntry) (p : Payload) : lastValueFits (.take t) (some (t.extract p)) = true := by
  unfold TakeEntry.extract takeValueOf
  cases h : t.wide <;> simp [lastValueFits, h]

theorem slotMap_reset_fits : SlotMap.reset.fits := by
  refine ⟨fun i => ?_, fun h => by simp [SlotMap.reset] at h, fun i => lastValueFits_none _ i⟩
  simp [SlotMap.reset, Vector.get_eq_getElem, MapEntry.fits]

theorem fits_mapMove {m m' : SlotMap} (h : MapMove m m') (hm : m.fits) : m'.fits := by
  obtain ⟨hactive, hstaging, hlast⟩ := hm
  cases h with
  | reset => exact slotMap_reset_fits
  | cleared => exact ⟨hactive, hstaging, fun i => lastValueFits_none _ i⟩
  | @stored i t p h =>
    refine ⟨hactive, hstaging, fun j => ?_⟩
    dsimp only
    rw [setAt_get]
    split
    · rename_i hij
      rw [← hij, h]
      exact lastValueFits_extract t p
    · exact hlast j
  | staged i e h => exact ⟨hactive, fun hp => by simp [h] at hp, hlast⟩
  | asked h => exact ⟨hactive, fun _ i => by simpa using find?_finRange_none.mp h i, hlast⟩
  | committed h => exact ⟨hstaging h, fun hp => by simp [SlotMap.commit] at hp, fun i => lastValueFits_none _ i⟩

theorem mapInv_congr {s t : State} (h : t.map = s.map) (hs : MapInv s) : MapInv t := by
  unfold MapInv at *
  rw [h]
  exact hs

theorem mapInv_move {s t : State} (h : Move s t) (hs : MapInv s) : MapInv t := by
  cases h with
  | port _ _ => exact hs
  | block h =>
    cases h with
    | rest h => exact mapInv_congr h.map hs
    | node _ => exact hs
    | map h => exact fits_mapMove h hs
    | agent _ => exact hs

theorem mapInv_step : ∀ s t : State, MapInv s → step s = .next t → MapInv t :=
  step_keeps_of_moves (fun _ _ h => mapInv_congr h.map)
    (fun _ h => mapInv_congr (s := State.reset) h.map slotMap_reset_fits) (fun _ _ => mapInv_move)

/-! ## Management agent -/

theorem agentInv_congr {s t : State} (h : t.agent = s.agent) (hs : AgentInv s) : AgentInv t := by
  unfold AgentInv at *
  rw [h]
  exact hs

theorem agentInv_move {s t : State} (h : Move s t) (hs : AgentInv s) : AgentInv t := by
  cases h with
  | port _ _ => exact hs
  | block h =>
    cases h with
    | rest h => exact agentInv_congr h.agent hs
    | node _ => exact hs
    | map _ => exact hs
    | agent h => exact h

theorem agentInv_reset : AgentInv State.reset := by
  simp [AgentInv, State.reset, Agent.reset]

theorem agentInv_step : ∀ s t : State, AgentInv s → step s = .next t → AgentInv t :=
  step_keeps_of_moves (fun _ _ h => agentInv_congr h.agent)
    (fun _ h => agentInv_congr (s := State.reset) h.agent agentInv_reset) (fun _ _ => agentInv_move)

/-! ## Frame event -/

/-- A frame event leaves no commit pending (R53). -/
theorem mapFrameEvent_commitPending (s : State) : (mapFrameEvent s).map.commitPending = false := by
  cases h : s.map.commitPending
  · rw [mapFrameEvent_of_not h, h]
  · rw [mapFrameEvent_of_pending h, enqueueOnly_eq]
    rfl

theorem frameEvent_commitPending (s : State) : (frameEvent s).map.commitPending = false := by
  unfold frameEvent
  split
  · split
    · rw [(SameControl.queueFrameEvent _).map]
      exact mapFrameEvent_commitPending _
    · exact mapFrameEvent_commitPending _
  · rw [(SameControl.queueFrameEvent _).map]
    exact mapFrameEvent_commitPending _

theorem returnFromFallback_commitPending (s : State) : (returnFromFallback s).map.commitPending = false := by
  unfold returnFromFallback
  split
  · split
    · exact frameEvent_commitPending _
    · rw [(SameControl.enqueueOnly _ _).map]
      exact frameEvent_commitPending _
  · exact frameEvent_commitPending _

/-- After a NORMAL header the node is UNADDRESSED or has no commit pending (R24, R25, R53). -/
theorem normalHeader_commitPending (epoch : Byte) (s : State) :
    (normalHeader epoch s).node.state = .unaddressed ∨ (normalHeader epoch s).map.commitPending = false := by
  unfold normalHeader
  split
  · rename_i h
    exact .inl h
  · split
    · rename_i hs _
      unfold ownEpochFrame
      split
      · rename_i h
        exact absurd h hs
      · exact .inr (frameEvent_commitPending _)
      · exact .inr (frameEvent_commitPending _)
      · exact .inr (returnFromFallback_commitPending s)
    · exact .inl rfl

/-- The invariant holds wherever the frame does not stand before its first slot. -/
theorem frameEventInv_of_frame {s : State} (h : atFirstSlot s.port.frame = false) : FrameEventInv s := by
  intro hf
  rw [h] at hf
  cases hf

/-- The invariant looks at the frame record, the node state and the commit-pending flag alone. -/
theorem frameEventInv_congr {s t : State} (hf : t.port.frame = s.port.frame) (hn : t.node.state = s.node.state)
    (hm : t.map.commitPending = s.map.commitPending) (hs : FrameEventInv s) : FrameEventInv t := by
  unfold FrameEventInv at *
  rw [hf, hn, hm]
  exact hs

theorem frameEventInv_settleReset {s : State} (hs : FrameEventInv s) : FrameEventInv (settleReset s) := by
  unfold settleReset
  split
  · exact fun _ hn => absurd rfl hn
  · exact hs

/-- The header of a delivered NORMAL frame carries a pending commit out, and no other frame stands before a first slot (R53). -/
theorem frameEventInv_headerArrives {s : State} (h : HeaderBytes) (hs : FrameEventInv s) :
    FrameEventInv (headerArrives h s) := by
  unfold headerArrives
  split
  · split
    · exact frameEventInv_of_frame rfl
    · exact frameEventInv_of_frame rfl
    · rename_i k _
      cases k with
      | enumerate =>
        refine frameEventInv_of_frame ?_
        have hp := (BlockMoves.headerArrivalAt .enumerate h
          (setFrame (.slots h.slots 0 (some .enumerate)) (goodHeader (bump ctrGoodFrames s)))).port
        simp only [deliverHeader, sendOn, State.withPort_port, hp]
        rfl
      | normal =>
        intro _ hn
        exact (normalHeader_commitPending h.epoch _).resolve_left hn
  · exact frameEventInv_congr rfl rfl rfl hs
  · exact frameEventInv_congr rfl rfl rfl hs

/-- A slot that is counted leaves the frame past its first slot, and bytes that are not counted leave the frame alone (R1, R3). -/
theorem frameEventInv_slotArrives {s : State} (b : SlotBytes) (judge : FrameKind → Nat → State → SlotResult)
    (hs : FrameEventInv s) : FrameEventInv (slotArrives b judge s) := by
  unfold slotArrives
  split
  · split
    · exact frameEventInv_of_frame rfl
    · exact frameEventInv_congr rfl rfl rfl hs
  · split
    · exact frameEventInv_of_frame rfl
    · exact frameEventInv_congr rfl rfl rfl hs
  · exact frameEventInv_congr rfl rfl rfl hs
  · exact frameEventInv_congr rfl rfl rfl hs

/-- A frame abandoned with the link does not stand before a first slot (R13). -/
theorem atFirstSlot_abandon (f : FrameRecord) : atFirstSlot f.abandon = false := by
  cases f with
  | slots count index d => cases d <;> simp [FrameRecord.abandon, atFirstSlot]
  | _ => rfl

theorem frameEventInv_markTimerExpires {s : State} (hs : FrameEventInv s) : FrameEventInv (markTimerExpires s) := by
  unfold markTimerExpires
  split
  · exact hs
  · split
    · exact frameEventInv_of_frame (atFirstSlot_abandon _)
    · exact frameEventInv_congr rfl rfl rfl hs

theorem frameEventInv_effect {f : State → State} (h : Effect f) {s : State} (hs : FrameEventInv s) : FrameEventInv (f s) := by
  cases h with
  | startMark tail => exact frameEventInv_of_frame rfl
  | endMark tail => exact frameEventInv_of_frame rfl
  | header h => exact frameEventInv_headerArrives h (frameEventInv_settleReset hs)
  | slot b v => exact frameEventInv_slotArrives b _ (frameEventInv_settleReset hs)
  | resetTakesPlace => exact frameEventInv_settleReset hs
  | markTimer => exact frameEventInv_markTimerExpires hs
  | silence =>
    dsimp only
    split
    · rename_i h
      exact fun hf _ => hs hf (by simp [h])
    · exact hs
  | outage =>
    dsimp only
    split
    · exact frameEventInv_congr rfl rfl rfl hs
    · exact hs
  | commit =>
    dsimp only
    split
    · exact fun _ _ => mapFrameEvent_commitPending s
    · exact hs
  | other h => exact frameEventInv_congr (by rw [(h s).port]) (by rw [(h s).node]) (by rw [(h s).map]) hs

theorem frameEventInv_exec (c : Instr) (s t : State) (hs : FrameEventInv s) (he : exec c s = .next t) : FrameEventInv t := by
  cases hc : isSupplyCommand c with
  | false =>
    obtain ⟨f, hf, hx⟩ := exec_effect hc
    obtain rfl := Host.Outcome.next.inj ((hx s).symm.trans he)
    unfold whenOperating
    split
    · exact frameEventInv_effect hf hs
    · exact hs
  | true =>
    rcases exec_supply_blocks hc he with hr | hk
    · obtain ⟨o, hp⟩ := hr.port
      exact frameEventInv_of_frame (by rw [hp]; rfl)
    · exact frameEventInv_congr (by rw [hk.port]) (by rw [hk.node]) (by rw [hk.map]) hs

theorem frameEventInv_step : ∀ s t : State, FrameEventInv s → step s = .next t → FrameEventInv t :=
  step_keeps (fun _ _ => frameEventInv_congr rfl rfl rfl) frameEventInv_exec

/-- Settles O56: each invariant is kept by every move of its own block; the frame event's, which a header breaks and mends within one
command, is kept by every command. -/
theorem stepKeepsPortNodeMapAndAgent : Obligations.StepKeepsPortNodeMapAndAgent :=
  ⟨⟨supplyInv_step, portInv_step, frameEventInv_step⟩, nodeInv_step, mapInv_step, agentInv_step⟩

end Sys2Proof.Machine
end

section
/-! The commands of the supply and the RESET pin, the marks, the mark timer, undelivered headers and ENUMERATE headers. -/

namespace Sys2Proof.Machine

/-! ## Supply and reset -/

theorem bypass_asserted_iff (s : State) : s.bypass = .asserted ↔ s.phase = .heldInReset ∨ s.phase = .starting := by
  unfold State.bypass
  cases s.phase <;> simp

theorem bypass_released_iff (s : State) : s.bypass = .released ↔ s.phase = .operating := by
  unfold State.bypass
  cases s.phase <;> simp

theorem bypass_undriven_iff (s : State) : s.bypass = .undriven ↔ s.phase = .unpowered := by
  unfold State.bypass
  cases s.phase <;> simp

theorem execPinReset_full {s : State} (h : s.phase ≠ .unpowered) : execPinReset .full s = .next (pinResetNow s) := by
  cases hp : s.phase <;> simp_all [execPinReset]

theorem execPinReset_short {s : State} (h : s.phase ≠ .unpowered) :
    execPinReset .short s = .next (if Config.orderChoice s.freeIndex then pinResetNow (tookChoice s) else tookChoice s) := by
  cases hp : s.phase <;> simp_all [execPinReset]

theorem execPinReset_unpowered {s : State} (h : s.phase = .unpowered) :
    execPinReset .full s = .next (s.withResetPinLow true) ∧ execPinReset .short s = .next s := by
  simp [execPinReset, h]

/-- A short pulse is a choice taken and nothing else, or the full pulse after it (R16; entry 3). -/
theorem execPinReset_short_cases {s : State} (h : s.phase ≠ .unpowered) :
    execPinReset .short s = .next (tookChoice s) ∨ execPinReset .short s = execPinReset .full (tookChoice s) := by
  rw [execPinReset_short h, execPinReset_full (s := tookChoice s) h]
  split
  · exact .inr rfl
  · exact .inl rfl

theorem execResetReleased_held {s : State} (h : s.phase = .heldInReset) :
    execResetReleased s = .next ((s.withResetPinLow false).withPhase .starting) := by
  simp [execResetReleased, h]

theorem execResetReleased_notHeld {s : State} (h : s.phase ≠ .heldInReset) :
    execResetReleased s = .next (s.withResetPinLow false) := by
  simp [execResetReleased, h]

theorem execStartUpComplete_starting {s : State} (h : s.phase = .starting) :
    execStartUpComplete s = .next (s.withPhase .operating) := by
  simp [execStartUpComplete, h]

theorem execStartUpComplete_notStarting {s : State} (h : s.phase ≠ .starting) : execStartUpComplete s = .next s := by
  simp [execStartUpComplete, h]

/-- After a reset of the whole node BYPASS is asserted, whichever way RESET stands (R15, R16). -/
theorem bypass_wholeReset_phaseAfterReset (s : State) : (wholeReset (phaseAfterReset s) s).bypass = .asserted := by
  rw [bypass_asserted_iff]
  unfold phaseAfterReset
  cases s.resetPinLow
  · exact .inr rfl
  · exact .inl rfl

/-- Settles O3: each command by the phase that decides it, with BYPASS read off the phase. -/
theorem supplyAndResetPinCommands : Obligations.SupplyAndResetPinCommands := by
  refine ⟨rfl, fun s => ⟨rfl, execPinReset_full, execPinReset_short_cases, execPinReset_unpowered⟩, ?_, fun s => ?_⟩
  · exact ⟨fun s => execResetReleased_held, fun s => execResetReleased_notHeld,
      fun s h => ⟨execStartUpComplete_starting h, rfl⟩, fun s => execStartUpComplete_notStarting,
      fun s => ⟨rfl, fun t ht => by obtain rfl := Host.Outcome.next.inj ht; rfl⟩⟩
  · refine ⟨bypass_asserted_iff s, bypass_released_iff s, bypass_undriven_iff s, fun t ht => ?_, fun t hp ht => ?_,
      fun t hp ht => ?_⟩
    · obtain rfl := Host.Outcome.next.inj ht
      exact ⟨bypass_wholeReset_phaseAfterReset s, rfl⟩
    · obtain rfl := Host.Outcome.next.inj ((execPinReset_full hp).symm.trans ht)
      exact ⟨rfl, rfl⟩
    · obtain rfl := Host.Outcome.next.inj ((execResetReleased_held hp).symm.trans ht)
      rfl

/-! ## Marks -/

theorem closeFrame_noFrame {s : State} (h : s.port.frame = .noFrame) : closeFrame s = s := by
  simp [closeFrame, h]

theorem closeFrame_header {s : State} (h : s.port.frame = .header) : closeFrame s = badHeader s := by
  simp [closeFrame, h]

theorem closeFrame_delivered {s : State} {count : Byte} {index : Nat} {k : FrameKind}
    (h : s.port.frame = .slots count index (some k)) :
    closeFrame s = if index < count.toNat then bump ctrSlotErrors s else s := by
  simp [closeFrame, h]

theorem closeFrame_undelivered {s : State} {count : Byte} {index : Nat} (h : s.port.frame = .slots count index none) :
    closeFrame s = s := by
  simp [closeFrame, h]

/-- Settles O5: a mark in an awake node closes the frame, and the closing is one case per frame record. -/
theorem marksBeginAndCloseFrames : Obligations.MarksBeginAndCloseFrames := by
  refine ⟨fun tail s h => ⟨?_, ?_⟩, fun s => closeFrame_noFrame, fun s => closeFrame_header,
    fun s count index k => closeFrame_delivered, fun s count index => closeFrame_undelivered⟩
  · exact congrArg Host.Outcome.next (whenOperating_settled (f := startMarkArrives tail) h)
  · exact congrArg Host.Outcome.next (whenOperating_settled (f := endMarkArrives tail) h)

/-! ## The link state -/

theorem badHeader_searching {p : Port} (h : p.link = .searching) : p.badHeader = p := by
  simp [Port.badHeader, h]

theorem badHeader_third {p : Port} (h : p.link = .locked) (hr : p.badRun = 2) : p.badHeader = p.search := by
  simp [Port.badHeader, h, hr]

theorem badHeader_notThird {p : Port} (h : p.link = .locked) (hr : p.badRun ≠ 2) :
    p.badHeader = { p with badRun := p.badRun + 1 } := by
  simp [Port.badHeader, h, hr]

theorem markTimerExpires_locked {s : State} (h : s.port.markTimer < markLimit) (hl : s.port.link = .locked) :
    markTimerExpires s = s.withPort { s.port.search with markTimer := markLimit, frame := s.port.frame.abandon } := by
  simp [markTimerExpires, Nat.not_le.mpr h, hl]

theorem markTimerExpires_searching {s : State} (h : s.port.markTimer < markLimit) (hl : s.port.link = .searching) :
    markTimerExpires s = s.withPort { s.port with markTimer := markLimit } := by
  simp [markTimerExpires, Nat.not_le.mpr h, hl]

theorem execMarkTimerExpiry_operating {s : State} (h : s.phase = .operating) :
    execMarkTimerExpiry s = .next (markTimerExpires s) := congrArg Host.Outcome.next (whenOperating_of h)

/-- A timer that rests does not expire, in operation or out of it (R12). -/
theorem execMarkTimerExpiry_rests {s : State} (h : markLimit ≤ s.port.markTimer) : execMarkTimerExpiry s = .next s := by
  by_cases hs : s.phase = .operating
  · rw [execMarkTimerExpiry_operating hs, markTimerExpires_rests h]
  · exact congrArg Host.Outcome.next (whenOperating_of_not hs)

/-- Settles O6, by the link state and the run for a bad header, by the timer and the link state for its expiry. -/
theorem linkIsLostByThreeBadHeadersOrSilence : Obligations.LinkIsLostByThreeBadHeadersOrSilence := by
  refine ⟨fun p => badHeader_searching, fun p => badHeader_notThird, fun p => badHeader_third,
    fun s => execMarkTimerExpiry_rests, fun s hs ht hl => ?_, fun s hs ht hl => ?_⟩
  · refine (execMarkTimerExpiry_operating hs).trans ?_
    rw [markTimerExpires_locked ht hl]
    cases hf : s.port.frame with
    | slots count index d => cases d <;> rfl
    | _ => rfl
  · refine (execMarkTimerExpiry_operating hs).trans ?_
    rw [markTimerExpires_searching ht hl]
    rfl

/-! ## Headers -/

/-- Settles O7: the judgement is "bad" or "unknown kind", and either sends the header on after the port's own count. -/
theorem undeliveredHeadersReachNoBlock : Obligations.UndeliveredHeadersReachNoBlock := by
  refine fun s h ha => ⟨fun hb => ?_, fun hd h1 h2 => ?_⟩
  · refine (execHeaderArrival_awaits ha h).trans ?_
    rw [judgeHeader_bad hb]
    rfl
  · refine (execHeaderArrival_awaits ha h).trans ?_
    rw [judgeHeader_unknown hd (frameKind_ofCode_none h1 h2)]
    rfl

theorem enumerate_position {hop : Byte} (h : 1 ≤ hop.toNat ∧ hop.toNat ≤ 60) (epoch : Byte) (s : State) :
    enumerate hop epoch s = (emptyCache (becomeReady hop epoch s), some (hop + 1)) := by
  have hne : hop ≠ 255 := by bv_omega
  simp only [enumerate, if_neg hne, if_pos h]

theorem enumerate_noPosition {hop : Byte} (h : hop.toNat = 0 ∨ 61 ≤ hop.toNat ∧ hop.toNat ≤ 254) (epoch : Byte) (s : State) :
    enumerate hop epoch s = (emptyCache (becomeUnaddressed s), some (hop + 1)) := by
  have hne : hop ≠ 255 := by bv_omega
  have hout : ¬(1 ≤ hop.toNat ∧ hop.toNat ≤ 60) := by omega
  simp only [enumerate, if_neg hne, if_neg hout]

theorem enumerate_ignored {hop : Byte} (h : hop.toNat = 255) (epoch : Byte) (s : State) :
    enumerate hop epoch s = (s, none) := by
  have he : hop = 255 := by bv_omega
  simp only [enumerate, if_pos he]

/-- A delivered ENUMERATE header, by what enumeration makes of its hop count (R2, R9, R20). -/
theorem execHeaderArrival_enumerate {s t : State} {h : HeaderBytes} {hop : Option Byte} (ha : s.awaitsHeader)
    (hd : deliverable h) (hk : h.kind = 0x02)
    (he : enumerate h.hop h.epoch (queueHeader h.cycle
      (setFrame (.slots h.slots 0 (some .enumerate)) (goodHeader (bump ctrGoodFrames s)))) = (t, hop)) :
    execHeaderArrival h s = .next (sendOn (.header (sentHeader h hop)) t) := by
  have hcode : FrameKind.ofCode h.kind = some .enumerate := by rw [hk]; rfl
  rw [execHeaderArrival_delivered ha hd hcode]
  simp only [deliverHeader, headerArrivalAt, he]

/-- Settles O8: enumeration by the range of the hop count, and what it makes of the header's state. -/
theorem enumerationSetsPositionByHopCount : Obligations.EnumerationSetsPositionByHopCount := by
  refine fun s h ha hd hk => ⟨fun h1 h60 => ?_, fun hout => ?_, fun h255 => ?_⟩
  · refine (execHeaderArrival_enumerate ha hd hk (enumerate_position ⟨h1, h60⟩ _ _)).trans ?_
    rw [becomeReady_eq]
    rfl
  · refine (execHeaderArrival_enumerate ha hd hk (enumerate_noPosition hout _ _)).trans ?_
    rw [becomeUnaddressed_eq]
    rfl
  · exact execHeaderArrival_enumerate ha hd hk (enumerate_ignored h255 _ _)

end Sys2Proof.Machine
end

section
/-! Slots that pass as they came, slots that leave altered, COUNTER, NODE RESET, and the invariants after reset. -/

namespace Sys2Proof.Machine

/-! ## Slots that pass -/

theorem execSlotArrival_awake {s : State} (h : s.awake) (b : SlotBytes) (v : PinView) :
    execSlotArrival b v s = .next (slotArrives b (judgeSlot b v) s) :=
  congrArg Host.Outcome.next (whenOperating_settled (f := slotArrives b (judgeSlot b v)) h)

theorem execHeaderArrival_awake {s : State} (h : s.awake) (x : HeaderBytes) :
    execHeaderArrival x s = .next (headerArrives x s) :=
  congrArg Host.Outcome.next (whenOperating_settled (f := headerArrives x) h)

theorem isTake_iff (e : MapEntry) : e.isTake = true ↔ ∃ t, e = .take t := by
  cases e <;> simp [MapEntry.isTake]

theorem isOffer_iff (e : MapEntry) : e.isOffer = true ↔ e = .offer := by
  cases e <;> simp [MapEntry.isOffer]

theorem activeEntry_val (s : State) (i : Fin 48) : activeEntry s i.val = s.map.active.get i := by
  simp [activeEntry]

/-- A DATA slot whose entry is no TAKE takes nothing (R41). -/
theorem dataSlot_notTake {s : State} {index : Nat} (h : (activeEntry s index).isTake = false) (p : Payload) :
    dataSlot index p s = s := by
  unfold dataSlot
  unfold activeEntry at h
  split
  · rename_i i hi
    rw [hi] at h
    split
    · rename_i t ht
      simp [ht, MapEntry.isTake] at h
    · rfl
    · rfl
  · rfl

theorem dispatchSlot_data_passes {s : State} {index : Nat}
    (h : s.node.state ≠ .running ∨ (activeEntry s index).isTake = false) (b : SlotBytes) (v : PinView) :
    dispatchSlot .data index b v s = (s, none) := by
  simp only [dispatchSlot]
  split
  · rename_i hr
    rw [dataSlot_notTake (h.resolve_left (not_not_intro hr))]
  · rfl

theorem dispatchSlot_container_passes {s : State} {index : Nat}
    (h : s.node.state ≠ .running ∨ (activeEntry s index).isOffer = false) (b : SlotBytes) (v : PinView) :
    dispatchSlot .container index b v s = (s, none) := by
  have hno : ¬(s.node.state = .running ∧ activeEntry s index = .offer) := by
    rintro ⟨hr, ho⟩
    rcases h with h | h
    · exact h hr
    · simp [ho, MapEntry.isOffer] at h
  simp only [dispatchSlot, Bool.and_eq_true, decide_eq_true_eq, if_neg hno]

theorem dispatchSlot_ackList_passes {s : State} (h : s.node.state = .unaddressed ∨ s.node.state = .fallback) (index : Nat)
    (b : SlotBytes) (v : PinView) : dispatchSlot .ackList index b v s = (s, none) := by
  rcases h with h | h <;> simp [dispatchSlot, h]

/-- A MGMT slot in FALLBACK, or neither a broadcast nor addressed to the node, is not the agent's (R34, R164). -/
theorem mgmtSlot_passes {s : State} {tag : Byte}
    (h : s.node.state = .fallback ∨ tag ≠ 0xFE ∧ s.node.position ≠ some tag) (token : Byte) (r : Request) (v : PinView)
    (a : Args) : mgmtSlot tag token r v a s = (s, none) := by
  unfold mgmtSlot
  rcases h with h | ⟨ht, hp⟩
  · rw [h]
    split
    · rfl
    · split <;> rfl
  · rw [if_neg (show tag ≠ broadcastTag from ht), if_neg hp]

/-- The six kinds by their codes (10.3). -/
theorem slotKind_cases {c : Byte} (h : c.toNat ≤ 5) : ∃ k : SlotKind, c = k.code := by
  have : c = BitVec.ofNat 8 c.toNat := by simp
  generalize c.toNat = n at this h
  subst this
  interval_cases n
  exacts [⟨.void, rfl⟩, ⟨.data, rfl⟩, ⟨.container, rfl⟩, ⟨.ackList, rfl⟩, ⟨.mgmt, rfl⟩, ⟨.mgmtReply, rfl⟩]

/-- A good slot that the node's state, entry or position does not take leaves the node as it came (R21, R34, R41, R164). -/
theorem judgeSlot_passes {s : State} {b : SlotBytes} {kind : FrameKind} {index : Nat} (hg : goodSlot b)
    (h5 : b.kind.toNat ≤ 5) (v : PinView)
    (h : kind = .enumerate ∨ b.kind = 0x00 ∨ b.kind = 0x05 ∨
      (b.kind = 0x01 ∧ (s.node.state ≠ .running ∨ (activeEntry s index).isTake = false)) ∨
      (b.kind = 0x02 ∧ (s.node.state ≠ .running ∨ (activeEntry s index).isOffer = false)) ∨
      (b.kind = 0x03 ∧ (s.node.state = .unaddressed ∨ s.node.state = .fallback)) ∨
      (b.kind = 0x04 ∧ (s.node.state = .fallback ∨ (b.tag ≠ 0xFE ∧ s.node.position ≠ some b.tag)))) :
    judgeSlot b v kind index s = (s, none) := by
  cases kind with
  | enumerate =>
    obtain ⟨k, hk⟩ := slotKind_cases h5
    exact judgeSlot_enumerate hg (by rw [hk, slotKind_ofCode_code]) v index s
  | normal =>
    have dispatched {k : SlotKind} (hk : b.kind = k.code) (hd : dispatchSlot k index b v s = (s, none)) :
        judgeSlot b v .normal index s = (s, none) := by
      rw [judgeSlot_normal hg (by rw [hk, slotKind_ofCode_code]), hd]
    rcases h with h | h | h | ⟨h, hs⟩ | ⟨h, hs⟩ | ⟨h, hs⟩ | ⟨h, hs⟩
    · cases h
    · exact dispatched (k := .void) h rfl
    · exact dispatched (k := .mgmtReply) h rfl
    · exact dispatched (k := .data) h (dispatchSlot_data_passes hs b v)
    · exact dispatched (k := .container) h (dispatchSlot_container_passes hs b v)
    · exact dispatched (k := .ackList) h (dispatchSlot_ackList_passes hs index b v)
    · exact dispatched (k := .mgmt) h (mgmtSlot_passes hs _ _ v _)

/-- Settles O12: bytes that are no slot of a delivered frame, slots of bad check or unknown kind, and slots that nothing takes. -/
theorem slotsNotForTheNodePassUnchanged : Obligations.SlotsNotForTheNodePassUnchanged := by
  refine ⟨⟨fun s b v count index h hf hi => ?_, fun s b v count index kind h hf hi => ?_, fun s b v h hf => ?_,
    fun s x h hf => ?_⟩, fun s b v kind count index h => ⟨fun hb => ?_, fun hg h6 => ?_⟩,
    fun s b v kind count index h hg h5 hp => ?_, fun s i => ?_⟩
  · refine (execSlotArrival_awake h b v).trans ?_
    rw [slotArrives_undelivered hf hi]
    rfl
  · refine (execSlotArrival_awake h b v).trans ?_
    rw [slotArrives_past hf hi]
    rfl
  · refine (execSlotArrival_awake h b v).trans ?_
    rw [slotArrives_outside hf]
    rfl
  · refine (execHeaderArrival_awake h x).trans ?_
    rw [headerArrives_outside hf]
    rfl
  · refine (execSlotArrival_awaits h b v).trans ?_
    rw [judgeSlot_bad hb]
    rfl
  · refine (execSlotArrival_awaits h b v).trans ?_
    rw [judgeSlot_unknown hg (slotKind_ofCode_none h6)]
    rfl
  · refine (execSlotArrival_awaits h b v).trans ?_
    rw [judgeSlot_passes hg h5 v hp]
    rfl
  · rw [activeEntry_val]
    exact ⟨rfl, isTake_iff _, isOffer_iff _⟩

/-! ## Slots that leave altered -/

/-- What fills a free container: the payload of the queue's oldest WAITING report, under the node's position (R68, R69, R195). -/
structure FilledContainer (s : State) (b b' : SlotBytes) : Prop where
  freeTag : b.tag = 0xFF
  good : goodSlot b'
  kind : b'.kind = 0x02
  position : s.node.position = some b'.tag
  running : s.node.state = .running
  notStalled : s.queue.stalled = false
  oldest : ∃ (older newer : List Report) (r : Report),
    s.queue.reports = older ++ r :: newer ∧ (∀ x ∈ older, x.status = .sent) ∧ r.status = .waiting ∧
    b'.payload = reportPayload r r.everSent

theorem mayOffer_running {s : State} (h : mayOffer s = true) : s.node.state = .running ∧ s.queue.stalled = false := by
  simp only [mayOffer, Bool.and_eq_true, Bool.not_eq_true', decide_eq_true_eq] at h
  obtain ⟨⟨⟨⟨hr, hs⟩, -⟩, -⟩, -⟩ := h
  exact ⟨hr, hs⟩

theorem offer_fills {s : State} {b b' : SlotBytes} (h : (offer b.tag s).2 = some b') : FilledContainer s b b' := by
  unfold offer at h
  split at h
  · rename_i r p hr hp
    split at h
    · rename_i hm
      obtain rfl := Option.some.inj h
      obtain ⟨ht, ho⟩ : b.tag = 0xFF ∧ mayOffer s = true := by simpa using hm
      obtain ⟨hrun, hst⟩ := mayOffer_running ho
      obtain ⟨older, newer, heq, hsent, hw⟩ := oldestWaiting?_some hr
      exact ⟨ht, makeSlot_good _ _ _, rfl, hp, hrun, hst, older, newer, r, heq, hsent, hw, rfl⟩
    · cases h
  · cases h

/-- The answer to a request is a reply under the request's tag and token (R166). -/
theorem addressed_replies {position token : Byte} {r : Request} {v : PinView} {a : Args} {s : State} {b' : SlotBytes}
    (h : (addressed position token r v a s).2 = some b') : ∃ st d, b' = replySlot position token st d := by
  unfold addressed at h
  split at h
  · exact ⟨_, _, (Option.some.inj h).symm⟩
  · split at h <;> exact ⟨_, _, (Option.some.inj h).symm⟩

/-- Only a request to the node's own position is answered (R34, R164). -/
theorem mgmtSlot_replies {tag token : Byte} {r : Request} {v : PinView} {a : Args} {s : State} {b' : SlotBytes}
    (h : (mgmtSlot tag token r v a s).2 = some b') :
    s.node.position = some tag ∧ ∃ st d, b' = replySlot tag token st d := by
  unfold mgmtSlot at h
  split at h
  · split at h <;> cases h
  · split at h
    · rename_i hp
      refine ⟨hp, ?_⟩
      split at h
      · exact addressed_replies h
      · exact addressed_replies h
      · cases h
      · cases h
    · cases h

/-- A kind that is read from a code has that code. -/
theorem slotKind_code_of_ofCode {c : Byte} {k : SlotKind} (h : SlotKind.ofCode c = some k) : c = k.code := by
  unfold SlotKind.ofCode at h
  have hk := List.find?_some h
  exact (beq_iff_eq.mp hk).symm

/-- What the judgement of a slot puts in its place: a filled container, or a reply to the request it carries (R8). -/
theorem judgeSlot_replaces {b b' : SlotBytes} {v : PinView} {kind : FrameKind} {index : Nat} {s : State}
    (h : (judgeSlot b v kind index s).2 = some b') :
    goodSlot b ∧ (b.kind = 0x02 ∧ FilledContainer s b b' ∨
      b.kind = 0x04 ∧ s.node.position = some b.tag ∧ ∃ st d, b' = replySlot b.tag b.payload.p0 st d) := by
  unfold judgeSlot at h
  split at h
  · cases h
  · rename_i hg
    refine ⟨not_not.mp hg, ?_⟩
    split at h
    · cases h
    · rename_i k hk
      have hc : b.kind = k.code := slotKind_code_of_ofCode hk
      split at h
      · cases k with
        | container =>
          simp only [dispatchSlot] at h
          split at h
          · exact .inl ⟨hc, offer_fills h⟩
          · cases h
        | mgmt => exact .inr ⟨hc, mgmtSlot_replies h⟩
        | data | ackList =>
          simp only [dispatchSlot] at h
          split at h <;> cases h
        | void | mgmtReply => cases h
      · cases h

/-- What leaves the node in a slot's place: the slot itself, or what the judgement of the next slot of a delivered frame put there. -/
theorem slotArrives_loopOut {b b' : SlotBytes} {judge : FrameKind → Nat → State → SlotResult} {s : State}
    (h : (slotArrives b judge s).port.loopOut = .part (.slot b')) :
    b' = b ∨ ∃ kind index, (judge kind index s).2 = some b' := by
  have sent {x y : SlotBytes} (e : LoopOut.part (.slot x) = .part (.slot y)) : y = x := by
    simpa using e.symm
  unfold slotArrives at h
  split at h
  · split at h
    · rename_i count index kind _ _
      have hb : b' = (judge kind index s).2.getD b := sent h
      cases hj : (judge kind index s).2 with
      | none => exact .inl (by rw [hb, hj]; rfl)
      | some x => exact .inr ⟨kind, index, by rw [hj, hb, hj]; rfl⟩
    · exact .inl (sent h)
  · split at h <;> exact .inl (sent h)
  · exact .inl (sent h)
  · exact .inl (sent h)

/-- A node that a due NODE RESET has just reset has no position, and so nothing to put in a slot's place (R37, R184). -/
theorem settleReset_of_position {s : State} {p : Byte} (h : (settleReset s).node.position = some p) : settleReset s = s := by
  unfold settleReset at h ⊢
  split
  · rename_i hd
    rw [if_pos hd] at h
    cases h
  · rfl

/-- Settles O53: what leaves is the slot or what its judgement put in its place, and that is a filled container or a reply. -/
theorem slotsAreAlteredOnlyByOfferOrReply : Obligations.SlotsAreAlteredOnlyByOfferOrReply := by
  intro s t b b' v hs he hout
  have ht : slotArrives b (judgeSlot b v) (settleReset s) = t := by
    have := Host.Outcome.next.inj he
    rwa [whenOperating_of hs] at this
  rw [← ht] at hout
  rcases slotArrives_loopOut hout with rfl | ⟨kind, index, hj⟩
  · exact .inl rfl
  · obtain ⟨hg, ⟨hk, hf⟩ | ⟨hk, hp, st, d, rfl⟩⟩ := judgeSlot_replaces hj
    · obtain ⟨hfree, hg', hk', hp, hrun, hst, ho⟩ := hf
      have hsettled : settleReset s = s := settleReset_of_position hp
      rw [hsettled] at hp hrun hst ho
      exact .inr (.inl ⟨hg, hg', hk, hfree, hk', hp, hrun, hst, ho⟩)
    · rw [settleReset_of_position hp] at hp
      exact .inr (.inr ⟨hg, makeSlot_good _ _ _, hk, rfl, hp, rfl, rfl⟩)

/-! ## COUNTER -/

theorem flagOf_of_le {x : Byte} (h : x.toNat ≤ 1) : flagOf x.toNat = some (x = 1 : Bool) := by
  have hx : x = 0 ∨ x = 1 := by bv_omega
  rcases hx with rfl | rfl <;> rfl

theorem flagOf_none {n : Nat} (h : 2 ≤ n) : flagOf n = none := by
  unfold flagOf
  rw [if_neg (by omega), if_neg (by omega)]

/-- The less significant byte of a value is the byte of its remainder (R197). -/
theorem natByte_mod (n : Nat) : natByte n = BitVec.ofNat 8 (n % 256) := by
  apply BitVec.eq_of_toNat_eq
  simp [natByte]

theorem clearCounter_if (c : Prop) [Decidable c] (n : Fin 10) (s : State) :
    (if c then clearCounter n s else s) = { s with counters := if c then setAt s.counters n 0 else s.counters } := by
  split <;> rfl

theorem serve_counter {a : Args} {s : State} {n : Fin 10} (v : PinView) (hn : a.a0.toNat = n.val) (hf : a.a1.toNat ≤ 1) :
    serve .counter v a s =
      .taken .ok
        { d0 := a.a0, d1 := BitVec.ofNat 8 ((s.counters.get n).toNat / 256),
          d2 := BitVec.ofNat 8 ((s.counters.get n).toNat % 256), d3 := a.a1, d4 := 0 }
        { s with counters := if a.a1 = 1 then setAt s.counters n 0 else s.counters } := by
  simp only [serve, reqCounter, finOf_of_eq hn, flagOf_of_le hf, withIndex, withValue, natByte_mod, decide_eq_true_eq,
    clearCounter_if]
  rfl

theorem serve_counter_badValue {a : Args} {s : State} {n : Fin 10} (v : PinView) (hn : a.a0.toNat = n.val)
    (hf : 2 ≤ a.a1.toNat) : serve .counter v a s = .refused .badValue noData := by
  simp only [serve, reqCounter, finOf_of_eq hn, flagOf_none hf, withIndex, withValue, refuse]

/-- Settles O36: a count is one saturating step of one table entry, and COUNTER one row of the agent's catalogue. -/
theorem counterIsReadThenCleared : Obligations.CounterIsReadThenCleared := by
  refine ⟨fun n s => ⟨_, rfl, ?_, fun m hm => setAt_get_of_ne _ _ (Ne.symm hm)⟩, rfl,
    fun tag token a s count index n h hfresh hn => ⟨fun hf => ?_, fun hf => ?_⟩⟩
  · rw [setAt_get_self, satInc_toNat]
    exact Nat.min_comm _ _
  · exact congrArg Host.Outcome.next (requestCommand_taken h hfresh (serve_counter noPins hn hf))
  · exact congrArg Host.Outcome.next (requestCommand_refused h hfresh (serve_counter_badValue noPins hn hf))

/-! ## NODE RESET -/

/-- Outside FALLBACK a broadcast is acted on and passes as it came (R34, R176). -/
theorem mgmtSlot_broadcast {s : State} (h : s.node.state ≠ .fallback) (token : Byte) (r : Request) (v : PinView) (a : Args) :
    mgmtSlot 0xFE token r v a s = (broadcast r s, none) := by
  unfold mgmtSlot
  rw [if_pos (show (0xFE : Byte) = broadcastTag from rfl)]
  cases hs : s.node.state with
  | fallback => exact absurd hs h
  | _ => rfl

/-- Settling a due NODE RESET settles it: a second settling finds nothing (R184). -/
theorem settleReset_nodeReset {s : State} (h : s.node.resetDue = true) : settleReset (nodeReset s) = settleReset s := by
  rw [settleReset_of (s := nodeReset s) rfl]
  unfold settleReset
  rw [if_pos h]

/-- A part that arrives finds the same whether a due NODE RESET has already taken place or not (R184; entry 4). -/
theorem whenOperating_settles_first {s : State} (hp : s.phase = .operating) (h : s.node.resetDue = true)
    (f : State → State) :
    whenOperating (fun s => f (settleReset s)) s = whenOperating (fun s => f (settleReset s)) (nodeReset s) := by
  rw [whenOperating_of hp, whenOperating_of (s := nodeReset s) hp, settleReset_nodeReset h]

/-- Settles O37: the request arranges the reset in its slot's answer or passing, and the next part finds the state after it. -/
theorem nodeResetFollowsItsSlot : Obligations.NodeResetFollowsItsSlot := by
  refine ⟨fun tag token a s count index h hf => ?_, fun token a s count index h hs => ?_, fun s hp hd => ?_⟩
  · exact congrArg Host.Outcome.next (requestCommand_taken h hf rfl)
  · refine congrArg Host.Outcome.next ((requestCommand_awaits h 0xFE token .nodeReset noPins a).trans ?_)
    simp only [requestArrives, mgmtSlot_broadcast hs]
    rfl
  · have settled (f : State → State) := congrArg (Host.Outcome.next : State → Outcome) (whenOperating_settles_first hp hd f)
    have takesPlace : whenOperating settleReset s = nodeReset s := by
      rw [whenOperating_of hp]
      exact if_pos hd
    exact ⟨congrArg Host.Outcome.next takesPlace, fun tail => ⟨settled _, settled _⟩, fun h => settled _, fun b v => settled _⟩

/-! ## After reset -/

@[simp] theorem get_replicate {α : Type} {n : Nat} (x : α) (i : Fin n) : (Vector.replicate n x).get i = x := by
  simp [Vector.get_eq_getElem]

theorem queueInv_reset : QueueInv State.reset := by decide

theorem contactInv_reset : ContactInv State.reset := by
  intro i
  simp [State.reset, Contact.reset, Queue.reset]

theorem heldCount_allKeysUp : heldCount allKeysUp = 0 := by
  simp [heldCount, allKeysUp, KeyState.isHeld]

theorem scannerInv_reset : ScannerInv State.reset := by
  refine ⟨?_, fun k _ => ?_, fun k => ?_, by decide, by decide, by decide, by decide, by decide, by decide, ?_, by decide, ?_, ?_⟩
  · exact heldCount_allKeysUp.le.trans (by decide)
  · simp [State.reset, Scanner.reset, allKeysUp]
  · simp [State.reset, Scanner.reset, allKeysUp, keyCountFits]
  · simp [State.reset, Scanner.reset]
  · simp [State.reset, Scanner.reset]
  · simp [State.reset, Scanner.reset]

theorem engineInv_reset : EngineInv State.reset := by
  constructor
  · simp [State.reset, Engine.reset, EffectRecord.reset, rangeFits]
  · simp [State.reset, Engine.reset, Channel.reset, motionFits]

/-- Settles O55, block by block. -/
theorem resetMeetsEveryInvariant : Obligations.ResetMeetsEveryInvariant := by
  have hblocks : BlocksReset State.reset := ⟨⟨_, rfl⟩, rfl, rfl, rfl⟩
  exact ⟨supplyInv_wholeReset (s := State.reset) (.inr ⟨rfl, rfl⟩), portInv_reset hblocks, frameEventInv_of_frame rfl,
    nodeCtl_reset_fits, slotMap_reset_fits, queueInv_reset, contactInv_reset, scannerInv_reset, engineInv_reset, agentInv_reset⟩

end Sys2Proof.Machine
end

section
/-! NORMAL headers, the frame event and its parts, and FALLBACK. -/

namespace Sys2Proof.Machine

/-! ## A NORMAL header's arrival, which does not look at the loop port -/

theorem resumeLoop_withPort (s : State) (p : Port) : resumeLoop (s.withPort p) = (resumeLoop s).withPort p := rfl

theorem returnFromFallback_withPort (s : State) (p : Port) :
    returnFromFallback (s.withPort p) = (returnFromFallback s).withPort p := by
  have htook : tookChoice (s.withPort p) = (tookChoice s).withPort p := rfl
  simp only [returnFromFallback, State.withPort_map, State.withPort_node, State.withPort_freeIndex, htook,
    resumeLoop_withPort, enqueueOnly_withPort, frameEvent_withPort]
  split
  · split <;> rfl
  · rfl

theorem ownEpochFrame_withPort (s : State) (p : Port) : ownEpochFrame (s.withPort p) = (ownEpochFrame s).withPort p := by
  unfold ownEpochFrame
  rw [State.withPort_node]
  cases s.node.state with
  | unaddressed => rfl
  | ready => exact frameEvent_withPort s p
  | running => exact frameEvent_withPort (s.withNode { s.node with silenceTimer := some 0 }) p
  | fallback => exact returnFromFallback_withPort s p

theorem becomeUnaddressed_withPort (s : State) (p : Port) :
    becomeUnaddressed (s.withPort p) = (becomeUnaddressed s).withPort p := by
  rw [becomeUnaddressed_eq, becomeUnaddressed_eq]
  rfl

theorem normalHeader_withPort (epoch : Byte) (s : State) (p : Port) :
    normalHeader epoch (s.withPort p) = (normalHeader epoch s).withPort p := by
  simp only [normalHeader, State.withPort_node, ownEpochFrame_withPort, becomeUnaddressed_withPort]
  split
  · rfl
  · split <;> rfl

/-- A delivered NORMAL header is sent on as it came, after the node controller and the queue have dealt with it (R2, R20). -/
theorem execHeaderArrival_normal {s : State} {h : HeaderBytes} (ha : s.awaitsHeader) (hd : deliverable h)
    (hk : h.kind = 0x01) :
    execHeaderArrival h s = .next ((normalHeader h.epoch (s.headerTaken h)).headerSent h.slots (some .normal) h) := by
  have hcode : FrameKind.ofCode h.kind = some .normal := by rw [hk]; rfl
  have hport := (BlockMoves.normalHeader h.epoch (s.headerTaken h)).port
  have hframed : deliverHeader .normal h s = sendOn (.header h) (normalHeader h.epoch ((s.headerTaken h).withPort
      { (s.headerTaken h).port with frame := .slots h.slots 0 (some .normal) })) := rfl
  rw [execHeaderArrival_delivered ha hd hcode, hframed, normalHeader_withPort]
  simp only [State.headerSent, hport]
  rfl

/-! ## Another epoch -/

theorem normalHeader_unaddressed {s : State} (h : s.node.state = .unaddressed) (epoch : Byte) : normalHeader epoch s = s := by
  unfold normalHeader
  rw [if_pos h]

theorem normalHeader_otherEpoch {s : State} {epoch : Byte} (h : s.node.state ≠ .unaddressed) (he : s.node.epoch ≠ some epoch) :
    normalHeader epoch s = bump ctrEpochMismatches (becomeUnaddressed s) := by
  unfold normalHeader
  rw [if_neg h, if_neg he]

theorem leave_running {n : NodeCtl} (h : n.state = .running) : n.leave = { n with silenceTimer := none } := by
  simp [NodeCtl.leave, h]

theorem leave_fallback {n : NodeCtl} (h : n.state = .fallback) :
    n.leave = { n with silenceTimer := none, lastFallback := n.outageTimer, outageTimer := 0 } := by
  simp [NodeCtl.leave, h]

theorem leave_ready_or_unaddressed {n : NodeCtl} (h : n.state = .ready ∨ n.state = .unaddressed) : n.leave = n := by
  rcases h with h | h <;> simp [NodeCtl.leave, h]

/-- Settles O9: an UNADDRESSED node is passed over, and any other becomes UNADDRESSED and counts. -/
theorem anotherEpochTakesThePosition : Obligations.AnotherEpochTakesThePosition := by
  refine ⟨fun n => ⟨leave_running, leave_fallback, leave_ready_or_unaddressed⟩, fun q => rfl, fun r => rfl,
    fun s h ha hd hk => ⟨fun hn => ?_, fun hn he => ?_⟩⟩
  · refine (execHeaderArrival_normal ha hd hk).trans ?_
    rw [normalHeader_unaddressed (s := s.headerTaken h) hn]
  · refine (execHeaderArrival_normal ha hd hk).trans ?_
    rw [normalHeader_otherEpoch (s := s.headerTaken h) hn he, becomeUnaddressed_eq]
    rfl

/-! ## The frame event -/

/-- Unless a commit and a timeout meet, the slot map's part comes first and the order takes no choice (R20, R67). -/
theorem frameEvent_of_not_both {s : State} (h : ¬(s.map.commitPending = true ∧ timeoutDue s = true)) :
    frameEvent s = queueFrameEvent (mapFrameEvent s) := by
  unfold frameEvent
  rw [if_neg (by rwa [Bool.and_eq_true])]

/-- Where a commit and a timeout meet, a choice is taken and either part comes first (R67; entry 3). -/
theorem frameEvent_of_both {s : State} (h : s.map.commitPending = true ∧ timeoutDue s = true) :
    frameEvent s = queueFrameEvent (mapFrameEvent (tookChoice s)) ∨
      frameEvent s = mapFrameEvent (queueFrameEvent (tookChoice s)) := by
  unfold frameEvent
  rw [if_pos (by rwa [Bool.and_eq_true])]
  split
  · exact .inl rfl
  · exact .inr rfl

/-- The ack timer advances in RUNNING over a SENT report (R76). -/
theorem ackTimerRuns_iff (s : State) : ackTimerRuns s = true ↔ s.node.state = .running ∧ 0 < s.queue.sentCount := by
  unfold ackTimerRuns
  rw [Bool.and_eq_true, decide_eq_true_iff, decide_eq_true_iff]

theorem queueFrameEvent_rests {s : State} (h : ¬(s.node.state = .running ∧ 0 < s.queue.sentCount)) :
    queueFrameEvent s = s := by
  have hruns : ¬ackTimerRuns s = true := fun hr => h ((ackTimerRuns_iff s).mp hr)
  have hdue : ¬timeoutDue s = true := by
    rw [timeoutDue_iff]
    exact fun ⟨hrunning, hsent, _⟩ => h ⟨hrunning, hsent⟩
  unfold queueFrameEvent
  rw [if_neg hdue, if_neg hruns]

theorem queueFrameEvent_counts {s : State} (h : s.node.state = .running ∧ 0 < s.queue.sentCount)
    (ht : ¬s.queue.retryInterval.toNat ≤ s.queue.ackTimer.getD 0 + 1) :
    queueFrameEvent s = s.withQueue { s.queue with ackTimer := some (s.queue.ackTimer.getD 0 + 1) } := by
  have hdue : ¬timeoutDue s = true := by
    rw [timeoutDue_iff]
    exact fun ⟨_, _, hreached⟩ => ht hreached
  unfold queueFrameEvent
  rw [if_neg hdue, if_pos ((ackTimerRuns_iff s).mpr h)]
  rfl

theorem queueFrameEvent_timeout {s : State} (h : timeoutDue s = true) :
    queueFrameEvent s = s.withQueue s.queue.timeout := by
  unfold queueFrameEvent
  rw [if_pos h]

/-- A saturating count by its highest value. -/
theorem satInc_eq {w : Nat} {top : BitVec w} (htop : top = BitVec.allOnes w) (x : BitVec w) :
    satInc x = if x = top then top else x + 1 := by
  subst htop
  unfold satInc
  split
  · assumption
  · rfl

/-- The timeout go-back of a queue by its oldest report, whose retry count saturates at 7 (R77, R79). -/
theorem timeout_cons {q : Queue} {r : Report} {rs : List Report} (h : q.reports = r :: rs) :
    let retries := if r.retries = 7 then 7 else r.retries + 1
    q.timeout =
      { q with
        reports := { r with retries := retries, status := .waiting } :: rs.map Report.goBack
        ackTimer := none
        stalled := q.stalled || q.retryLimit.toNat < retries.toNat } := by
  intro retries
  have hretries : satInc r.retries = retries := satInc_eq rfl r.retries
  rw [← hretries]
  unfold Queue.timeout
  rw [h]
  rfl

/-! ## The frame event's own rows -/

theorem execCommitCarriedOut_of {s : State} (hp : s.phase = .operating) (h : atFrameEvent s = true) :
    execCommitCarriedOut s = .next (mapFrameEvent s) := by
  unfold execCommitCarriedOut
  rw [whenOperating_of hp, if_pos h]

/-- Where there is no frame event in hand, or no commit pending, COMMIT_CARRIED_OUT changes nothing (R40, R55, R56). -/
theorem execCommitCarriedOut_idle {s : State} (h : atFrameEvent s = true → s.map.commitPending = false) :
    execCommitCarriedOut s = .next s := by
  by_cases hp : s.phase = .operating
  · by_cases ha : atFrameEvent s = true
    · rw [execCommitCarriedOut_of hp ha, mapFrameEvent_of_not (h ha)]
    · simp [execCommitCarriedOut, whenOperating_of hp, ha]
  · exact congrArg Host.Outcome.next (whenOperating_of_not hp)

theorem execTimeoutGoBack_of {s : State} (hp : s.phase = .operating) (h : atFrameEvent s = true)
    (ht : s.queue.timeoutReached s.node.state = true) : execTimeoutGoBack s = .next (s.withQueue s.queue.timeout) := by
  unfold execTimeoutGoBack
  rw [whenOperating_of hp, h, ht]
  rfl

/-- Where there is no frame event in hand, or no timeout reached, TIMEOUT_GO_BACK changes nothing (R76, R77). -/
theorem execTimeoutGoBack_idle {s : State} (h : ¬(atFrameEvent s = true ∧ s.queue.timeoutReached s.node.state = true)) :
    execTimeoutGoBack s = .next s := by
  by_cases hp : s.phase = .operating
  · unfold execTimeoutGoBack
    rw [whenOperating_of hp, if_neg (by rwa [Bool.and_eq_true])]
  · exact congrArg Host.Outcome.next (whenOperating_of_not hp)

theorem atFrameEvent_false_of_frame {s : State} (h : ∀ count, s.port.frame ≠ .slots count 0 (some .normal)) :
    ¬atFrameEvent s = true := by
  rw [atFrameEvent_iff]
  rintro ⟨⟨count, hc⟩, -⟩
  exact h count hc

theorem atFrameEvent_false_of_state {s : State} (h : s.node.state = .unaddressed ∨ s.node.state = .fallback) :
    ¬atFrameEvent s = true := by
  rw [atFrameEvent_iff]
  rintro ⟨-, hs⟩
  rcases h with h | h <;> simp [h] at hs

/-- Settles O15: the slot map's part by the pending commit, the queue's part by whether the timer runs and reaches Rt, and the rows
by whether a frame event is in hand. -/
theorem frameEventParts : Obligations.FrameEventParts := by
  refine ⟨fun s => ⟨mapFrameEvent_of_pending, fun hm => ⟨mapFrameEvent_of_not hm, execCommitCarriedOut_idle fun _ => hm⟩,
      fun count hm hp hf hs => ?_, fun hs => execCommitCarriedOut_idle fun ha => absurd ha (atFrameEvent_false_of_state hs),
      fun hf => ⟨execCommitCarriedOut_idle fun ha => absurd ha (atFrameEvent_false_of_frame hf),
        execTimeoutGoBack_idle fun ha => atFrameEvent_false_of_frame hf ha.1⟩⟩,
    fun s => ⟨(timeoutDue_iff s).trans and_assoc.symm, queueFrameEvent_rests, queueFrameEvent_counts,
      fun r rs hruns hreached hr => ?_, fun h => ?_, ?_⟩,
    fun s => ⟨frameEvent_of_not_both, frameEvent_of_both⟩⟩
  · exact (execCommitCarriedOut_of hp ((atFrameEvent_iff s).mpr ⟨⟨count, hf⟩, hs⟩)).trans
      (congrArg Host.Outcome.next (mapFrameEvent_of_pending hm))
  · have hdue : timeoutDue s = true := (timeoutDue_iff s).mpr ⟨hruns.1, hruns.2, hreached⟩
    have htimeout := congrArg s.withQueue (timeout_cons hr)
    refine ⟨(queueFrameEvent_timeout hdue).trans htimeout, fun count hp hf ht => ?_⟩
    have hat : atFrameEvent s = true := (atFrameEvent_iff s).mpr ⟨⟨count, hf⟩, .inr hruns.1⟩
    have hmade : s.queue.timeoutReached s.node.state = true := (timeoutReached_iff _ _).mpr ⟨hruns.1, hruns.2, ht⟩
    exact (execTimeoutGoBack_of hp hat hmade).trans (congrArg Host.Outcome.next htimeout)
  · refine execTimeoutGoBack_idle fun ha => h ?_
    obtain ⟨hs, hc, ht⟩ := (timeoutReached_iff _ _).mp ha.2
    exact ⟨⟨hs, hc⟩, ht⟩
  · exact List.countP_eq_length_filter.symm

/-! ## The node's own epoch -/

theorem normalHeader_ownEpoch {s : State} {epoch : Byte} (h : s.node.state ≠ .unaddressed) (he : s.node.epoch = some epoch) :
    normalHeader epoch s = ownEpochFrame s := by
  unfold normalHeader
  rw [if_neg h, if_pos he]

/-- The node controller as an own-epoch header in READY or RUNNING leaves it: the silence timer restarts in RUNNING (R25). -/
theorem ownEpochFrame_addressed {s : State} (h : s.node.state = .ready ∨ s.node.state = .running) :
    ownEpochFrame s = frameEvent (s.withNode
      (if s.node.state = .running then { s.node with silenceTimer := some 0 } else s.node)) := by
  rcases h with h | h <;> simp [ownEpochFrame, h, State.withNode]

theorem ownEpochFrame_fallback {s : State} (h : s.node.state = .fallback) : ownEpochFrame s = returnFromFallback s := by
  simp only [ownEpochFrame, h]

/-- Settles O10: the header restarts the timer and gives the frame event, whose order is that of `frameEvent`. -/
theorem ownEpochHeaderGivesTheFrameEvent : Obligations.OwnEpochHeaderGivesTheFrameEvent := by
  intro s h ha hd hk he hs u taken
  have haddressed : s.node.state ≠ .unaddressed := by rcases hs with hs | hs <;> simp [hs]
  have hexec : exec (.headerArrival h) s = .next ((frameEvent u).headerSent h.slots (some .normal) h) := by
    refine (execHeaderArrival_normal ha hd hk).trans ?_
    rw [normalHeader_ownEpoch (s := s.headerTaken h) haddressed he, ownEpochFrame_addressed (s := s.headerTaken h) hs]
    rfl
  have hstate : u.node.state = s.node.state := by
    simp only [u]
    split <;> rfl
  have hdue : timeoutDue u = timeoutDue s := by
    simp only [timeoutDue, ackTimerRuns, hstate]
    rfl
  rw [← hdue, hexec]
  refine ⟨fun hnot => ?_, fun hboth => ?_⟩
  · rw [frameEvent_of_not_both (s := u) hnot]
  · have horder : frameEvent u = queueFrameEvent (mapFrameEvent taken) ∨ frameEvent u = mapFrameEvent (queueFrameEvent taken) :=
      frameEvent_of_both (s := u) hboth
    exact horder.imp (fun hf => by rw [hf]) (fun hf => by rw [hf])

/-! ## FALLBACK -/

theorem execSilenceTimerExpiry_running {s : State} (hp : s.phase = .operating) (h : s.node.state = .running) :
    execSilenceTimerExpiry s = .next (enterFallback s) := by
  unfold execSilenceTimerExpiry
  rw [whenOperating_of hp, if_pos h]

theorem execOutageTimerStep_fallback {s : State} (hp : s.phase = .operating) (h : s.node.state = .fallback) :
    execOutageTimerStep s = .next (s.withNode { s.node with
      outageTimer := if s.node.outageTimer = 255 then 255 else s.node.outageTimer + 1 }) := by
  unfold execOutageTimerStep
  rw [whenOperating_of hp, if_pos h, satInc_eq (top := 255) rfl]

/-- Without a pending commit the notice comes before the queue's part of the frame event (R25, R26). -/
theorem returnFromFallback_of_not {s : State} (h : s.map.commitPending = false) :
    returnFromFallback s = queueFrameEvent (enqueueOnly (.loopResumed s.node.outageTimer) (resumeLoop s)) := by
  have hmap : (enqueueOnly (.loopResumed s.node.outageTimer) (resumeLoop s)).map.commitPending = false := by
    rw [enqueueOnly_eq]
    exact h
  simp only [returnFromFallback, h, Bool.false_eq_true, if_false]
  rw [frameEvent_of_not_both (by simp [hmap]), mapFrameEvent_of_not hmap]

/-- With a pending commit the notice comes before or after the frame event (R26, R54; entry 3). -/
theorem returnFromFallback_of_pending {s : State} (h : s.map.commitPending = true) :
    returnFromFallback s = frameEvent (enqueueOnly (.loopResumed s.node.outageTimer) (resumeLoop (tookChoice s))) ∨
      returnFromFallback s = enqueueOnly (.loopResumed s.node.outageTimer) (frameEvent (resumeLoop (tookChoice s))) := by
  simp only [returnFromFallback, h, if_true]
  split
  · exact .inl rfl
  · exact .inr rfl

theorem resumeLoop_eq {s : State} (h : s.node.state = .fallback) :
    resumeLoop s =
      { s with
        node := { s.node with
          state := .running, silenceTimer := some 0, lastFallback := s.node.outageTimer, outageTimer := 0 }
        map := { s.map with lastValues := noLastValues } } := by
  unfold resumeLoop
  rw [leave_fallback h]
  rfl

/-- Settles O11: the two timers' rows, and the own-epoch header's return by whether a commit is pending. -/
theorem fallbackIsEnteredAndLeft : Obligations.FallbackIsEnteredAndLeft := by
  refine ⟨⟨fun s hp hs => ?_, fun s hp hs => execOutageTimerStep_fallback hp hs⟩, ?_⟩
  · exact (execSilenceTimerExpiry_running hp hs).trans rfl
  · intro s h ha hd hk he hs u taken notice
    have haddressed : s.node.state ≠ .unaddressed := by simp [hs]
    have hreturn : exec (.headerArrival h) s =
        .next ((returnFromFallback (s.headerTaken h)).headerSent h.slots (some .normal) h) := by
      refine (execHeaderArrival_normal ha hd hk).trans ?_
      rw [normalHeader_ownEpoch (s := s.headerTaken h) haddressed he, ownEpochFrame_fallback (s := s.headerTaken h) hs]
    have hresumed : resumeLoop (s.headerTaken h) = u := resumeLoop_eq (s := s.headerTaken h) hs
    have htaken : resumeLoop (tookChoice (s.headerTaken h)) = taken := resumeLoop_eq (s := tookChoice (s.headerTaken h)) hs
    rw [hreturn]
    refine ⟨fun hm => ?_, fun hm => ?_⟩
    · rw [returnFromFallback_of_not (s := s.headerTaken h) hm, hresumed]
      rfl
    · have horder := returnFromFallback_of_pending (s := s.headerTaken h) hm
      rw [htaken] at horder
      exact horder.imp (fun hf => by rw [hf]; rfl) (fun hf => by rw [hf]; rfl)

end Sys2Proof.Machine
end

section
/-! Requests that are answered or passed without being executed. -/

namespace Sys2Proof.Machine

/-! ## A request's row -/

/-- Only LINE READ looks at the pins, so any other request's slot does the same under every view of them. -/
theorem requestCommand_pins {r : Request} (h : r ≠ .lineRead) (tag token : Byte) (v w : PinView) (a : Args) (s : State) :
    requestCommand tag token r v a s = requestCommand tag token r w a s := by
  simp only [requestCommand, requestArrives, mgmtSlot, addressed, serve_pins h v w]

/-- The row for a request of known code, or of a code that is none of the 27, carries that request (R168). -/
theorem exec_requestRow {r : Request} {tag token : Byte} {a : Args} {v : PinView}
    (h : (requestRow r tag token a v).wellFormed = true) (s : State) :
    exec (requestRow r tag token a v) s = .next (requestCommand tag token r v a s) := by
  cases r with
  | unknown code =>
    have hcode : Request.ofCode code = .unknown code := request_ofCode_unknown h
    refine (congrArg (fun q => Host.Outcome.next (requestCommand tag token q noPins a s)) hcode).trans ?_
    exact congrArg Host.Outcome.next (requestCommand_pins (by simp) tag token noPins v a s)
  | lineRead => rfl
  | _ => exact congrArg Host.Outcome.next (requestCommand_pins (by simp) tag token noPins v a s)

/-- Every request's row, of whatever code, carries a request of its code. -/
theorem exec_requestRow_code (r : Request) (tag token : Byte) (a : Args) (v : PinView) (s : State) :
    ∃ (q : Request) (w : PinView), q.code = r.code ∧
      exec (requestRow r tag token a v) s = .next (requestCommand tag token q w a s) := by
  cases r with
  | unknown code => exact ⟨Request.ofCode code, noPins, request_code_ofCode code, rfl⟩
  | _ => exact ⟨_, v, rfl, exec_requestRow rfl s⟩

/-- A request that the node makes nothing of passes as it came. -/
theorem requestCommand_passes {s : State} {kind : FrameKind} {count : Byte} {index : Nat} {tag token : Byte} {r : Request}
    {v : PinView} {a : Args} (h : s.awaitsSlot kind count index) (hr : requestArrives tag token r v a kind s = (s, none)) :
    requestCommand tag token r v a s = s.slotSent kind count index (requestSlot tag token r.code a) := by
  rw [requestCommand_awaits h, hr]
  rfl

/-! ## Requests that are not executed -/

theorem cacheHit_of_match {s : State} {e : CacheEntry} {token code : Byte} {a : Args} (he : s.agent.cache = some e)
    (h0 : token ≠ 0) (ht : e.token = token) (hc : e.code = code) (ha : e.args = a) : cacheHit s token code a = some e := by
  have h0' : ¬token = 0#8 := h0
  simp [cacheHit, he, h0', CacheEntry.matches, ht, hc, ha]

/-- A request that matches the token cache is answered from it (R173). -/
theorem requestCommand_cached {s : State} {tag count : Byte} {index : Nat} {token : Byte} {r : Request} {v : PinView}
    {a : Args} {e : CacheEntry} (h : s.serves tag count index) (he : cacheHit s token r.code a = some e) :
    requestCommand tag token r v a s = s.slotSent .normal count index (replySlot tag token e.status e.data) := by
  rw [requestCommand_awaits h.1]
  simp only [requestArrives, mgmtSlot_of_serves h, addressed, he, Option.getD_some]

/-- A broadcast of another code than those of NODE RESET, START and STOP is not acted on (R176). -/
theorem broadcast_ignored {r : Request} (h4 : r.code ≠ 0x04) (h8 : r.code ≠ 0x08) (h9 : r.code ≠ 0x09) (s : State) :
    broadcast r s = s := by
  cases r with
  | nodeReset => exact absurd rfl h4
  | start => exact absurd rfl h8
  | stop => exact absurd rfl h9
  | _ => rfl

/-- A broadcast that is not acted on passes in every state (R34, R176). -/
theorem mgmtSlot_broadcast_ignored {s : State} {r : Request} (h : broadcast r s = s) (token : Byte) (v : PinView) (a : Args) :
    mgmtSlot 0xFE token r v a s = (s, none) := by
  by_cases hs : s.node.state = .fallback
  · exact mgmtSlot_passes (.inl hs) token r v a
  · rw [mgmtSlot_broadcast hs, h]

/-- Settles O30: the cache, the broadcasts without effect, the slots of other nodes and frames, and the refusals. -/
theorem requestsThatAreNotExecuted : Obligations.RequestsThatAreNotExecuted := by
  refine ⟨fun r tag token a v s kind count index => ?_, fun r tag token a v s count index st d h hf hw hv =>
    (exec_requestRow hw s).trans (congrArg Host.Outcome.next (requestCommand_refused h hf hv))⟩
  obtain ⟨q, w, hcode, hexec⟩ := exec_requestRow_code r tag token a v s
  rw [hexec, ← hcode]
  refine ⟨fun e h he h0 ht hc ha => ?_, fun h htag h4 h8 h9 => ?_, fun h hpass => ?_⟩
  · exact congrArg Host.Outcome.next (requestCommand_cached h (cacheHit_of_match he h0 ht hc ha))
  · subst htag
    exact congrArg Host.Outcome.next
      (requestCommand_passes h (mgmtSlot_broadcast_ignored (broadcast_ignored h4 h8 h9 s) token w a))
  · refine congrArg Host.Outcome.next (requestCommand_passes h ?_)
    cases kind with
    | enumerate => rfl
    | normal => exact mgmtSlot_passes (.inr (hpass.resolve_left (by simp))) token q w a

end Sys2Proof.Machine
end

section
/-! START and STOP, addressed and broadcast, and the lines that a validated line map hands over. -/

namespace Sys2Proof.Machine

/-! ## The lines of a validated map (R99) -/

/-- The row index an entry holds. -/
def LineEntry.rowIndex? : LineEntry → Option (Fin 8)
  | .row i => some i
  | _ => none

/-- The column index an entry holds. -/
def LineEntry.columnIndex? : LineEntry → Option (Fin 8)
  | .column i => some i
  | _ => none

theorem rowIndex?_eq_some {x : LineEntry} {i : Fin 8} : x.rowIndex? = some i ↔ x = .row i := by
  cases x <;> simp [LineEntry.rowIndex?]

theorem columnIndex?_eq_some {x : LineEntry} {i : Fin 8} : x.columnIndex? = some i ↔ x = .column i := by
  cases x <;> simp [LineEntry.columnIndex?]

/-- The indices that a map's lines hold, in line order. `f` reads an entry's row index or its column index: one argument serves both. -/
def heldIndices (f : LineEntry → Option (Fin 8)) (t : LineTable) : List (Fin 8) :=
  (List.finRange 24).filterMap fun l => f (t.get l)

/-- The lowest line that holds an index. -/
def holder? (f : LineEntry → Option (Fin 8)) (t : LineTable) (i : Nat) : Option Line :=
  (List.finRange 24).find? fun l => (f (t.get l)).any fun j => j.val = i

theorem heldIndices_length (f : LineEntry → Option (Fin 8)) (t : LineTable) :
    (heldIndices f t).length = ((List.finRange 24).filter fun l => (f (t.get l)).isSome).length := by
  rw [heldIndices, List.length_filterMap_eq_countP, List.countP_eq_length_filter]

theorem rowCount_eq (t : LineTable) : rowCount t = (heldIndices LineEntry.rowIndex? t).length := by
  rw [heldIndices_length, rowCount]
  congr 2
  funext l
  cases t.get l <;> rfl

theorem columnCount_eq (t : LineTable) : columnCount t = (heldIndices LineEntry.columnIndex? t).length := by
  rw [heldIndices_length, columnCount]
  congr 2
  funext l
  cases t.get l <;> rfl

theorem rowLine?_eq (t : LineTable) : rowLine? t = holder? LineEntry.rowIndex? t := by
  funext i
  unfold rowLine? holder?
  congr 1
  funext l
  cases t.get l <;> rfl

theorem columnLine?_eq (t : LineTable) : columnLine? t = holder? LineEntry.columnIndex? t := by
  funext i
  unfold columnLine? holder?
  congr 1
  funext l
  cases t.get l <;> rfl

/-- A list built from indices that all give an entry has each index's entry at its place. -/
theorem filterMap_range {α : Type} {g : Nat → Option α} {n : Nat} (h : ∀ k < n, ∃ x, g k = some x) :
    ((List.range n).filterMap g).length = n ∧
      ∀ k, ((List.range n).filterMap g)[k]? = if k < n then g k else none := by
  induction n with
  | zero => simp
  | succ n ih =>
    obtain ⟨hlength, hget⟩ := ih fun k hk => h k (by omega)
    obtain ⟨x, hx⟩ := h n (by omega)
    rw [List.range_succ, List.filterMap_append]
    simp only [List.filterMap_cons, hx, List.filterMap_nil]
    refine ⟨by simp [hlength], fun k => ?_⟩
    rcases Nat.lt_trichotomy k n with hk | rfl | hk
    · rw [List.getElem?_append_left (by omega), hget, if_pos hk, if_pos (by omega)]
    · simp [hlength, hx]
    · rw [List.getElem?_eq_none (by simp [hlength]; omega), if_neg (by omega)]

section
variable {f : LineEntry → Option (Fin 8)} {use : Fin 8 → LineEntry} {t : LineTable}
  (hf : ∀ x i, f x = some i ↔ x = use i)
  (hunique : ∀ (i : Fin 8) (l m : Line), t.get l = use i → t.get m = use i → l = m)
  (hgap : ∀ (i : Fin 8) (l : Line), t.get l = use i → i.val < (heldIndices f t).length)

include hf hunique in
/-- Where no index is held twice, an index's line is the one that holds it (R96, R99). -/
theorem holder?_eq_some (i : Fin 8) (l : Line) : holder? f t i.val = some l ↔ t.get l = use i := by
  have hits (m : Line) : ((f (t.get m)).any fun j => j.val = i.val) = true ↔ t.get m = use i := by
    rw [← hf]
    cases f (t.get m) <;> simp [Fin.ext_iff]
  unfold holder?
  rw [find?_finRange]
  simp only [← Bool.not_eq_true, hits]
  exact ⟨And.left, fun h => ⟨h, fun m hm hfm => hm.ne (hunique i m l hfm h)⟩⟩

include hf hunique hgap in
/-- Where no index is held twice and none leaves a gap, the held indices are those below their number: distinct, and as many (R96, R97). -/
theorem heldIndices_perm : ((heldIndices f t).map Fin.val).Perm (List.range (heldIndices f t).length) := by
  have hdistinct : ((heldIndices f t).map Fin.val).Nodup :=
    ((List.nodup_finRange 24).filterMap fun l m i hl hm => hunique i l m ((hf _ _).mp hl) ((hf _ _).mp hm)).map
      Fin.val_injective
  have hbelow : (heldIndices f t).map Fin.val ⊆ List.range (heldIndices f t).length := by
    intro n hn
    obtain ⟨i, hi, rfl⟩ := List.mem_map.mp hn
    obtain ⟨l, -, hl⟩ := List.mem_filterMap.mp hi
    exact List.mem_range.mpr (hgap i l ((hf _ _).mp hl))
  exact (List.subperm_of_subset hdistinct hbelow).perm_of_length_le (by simp)

include hf hunique hgap in
/-- Every index below the number of held ones has its line (R97, R99). -/
theorem holder?_of_lt {n : Nat} (hn : n < (heldIndices f t).length) : ∃ l, holder? f t n = some l := by
  have hheld : n ∈ (heldIndices f t).map Fin.val :=
    (heldIndices_perm hf hunique hgap).mem_iff.mpr (List.mem_range.mpr hn)
  obtain ⟨i, hi, rfl⟩ := List.mem_map.mp hheld
  obtain ⟨l, -, hl⟩ := List.mem_filterMap.mp hi
  exact ⟨l, (holder?_eq_some hf hunique i l).mpr ((hf _ _).mp hl)⟩

include hf hunique hgap in
/-- The lines handed over for the held indices are as many, and each index's line stands at its place (R99). -/
theorem handedOver :
    let lines := (List.range (heldIndices f t).length).filterMap (holder? f t)
    lines.length = (heldIndices f t).length ∧
      ∀ (i : Fin 8) (l : Line), (holder? f t i.val = some l ↔ t.get l = use i) ∧ (lines[i.val]? = some l ↔ t.get l = use i) := by
  obtain ⟨hlength, hget⟩ := filterMap_range fun k hk => holder?_of_lt hf hunique hgap hk
  refine ⟨hlength, fun i l => ⟨holder?_eq_some hf hunique i l, ?_⟩⟩
  rw [hget]
  split
  · exact holder?_eq_some hf hunique i l
  · rename_i hi
    exact ⟨nofun, fun h => absurd (hgap i l h) hi⟩

end

/-- With no repeat, an entry of a judged function stands at one line (R96). -/
theorem unique_of_use {t : LineTable} (h : ∀ l, isRepeat t l = false) {x : LineEntry} (hx : sameUse x x = true) {l m : Line}
    (hl : t.get l = x) (hm : t.get m = x) : l = m :=
  unique_of_no_repeat h (by rwa [hl, hm]) (by rwa [hl, hm])

/-- The row lines of a map that validation passes (R96, R97, R99). -/
theorem rows_handedOver {t : LineTable} (h : validate t = none) :
    let rows := (List.range (rowCount t)).filterMap (rowLine? t)
    rows.length = rowCount t ∧
      ∀ (i : Fin 8) (l : Line), (rowLine? t i.val = some l ↔ t.get l = .row i) ∧ (rows[i.val]? = some l ↔ t.get l = .row i) := by
  obtain ⟨hrepeat, hgap, -⟩ := validate_none h
  rw [rowLine?_eq, rowCount_eq]
  refine handedOver (fun _ _ => rowIndex?_eq_some) (fun i l m => unique_of_use hrepeat (by simp [sameUse])) fun i l hl => ?_
  rw [← rowCount_eq, ← Nat.not_le]
  exact fun hi => absurd ((isGap_iff t l).mpr (.inl ⟨i, hl, hi⟩)) (by simp [hgap l])

/-- The column lines of a map that validation passes (R96, R97, R99). -/
theorem columns_handedOver {t : LineTable} (h : validate t = none) :
    let columns := (List.range (columnCount t)).filterMap (columnLine? t)
    columns.length = columnCount t ∧
      ∀ (i : Fin 8) (l : Line),
        (columnLine? t i.val = some l ↔ t.get l = .column i) ∧ (columns[i.val]? = some l ↔ t.get l = .column i) := by
  obtain ⟨hrepeat, hgap, -⟩ := validate_none h
  rw [columnLine?_eq, columnCount_eq]
  refine handedOver (fun _ _ => columnIndex?_eq_some) (fun i l m => unique_of_use hrepeat (by simp [sameUse])) fun i l hl => ?_
  rw [← columnCount_eq, ← Nat.not_le]
  exact fun hi => absurd ((isGap_iff t l).mpr (.inr ⟨i, hl, hi⟩)) (by simp [hgap l])

/-- What a line gives contact `i`. -/
def contactOf (t : LineTable) (i : Fin 8) (l : Line) : Option (Line × Polarity) :=
  match t.get l with
  | .contact j _ q => if j = i then some (l, q) else none
  | _ => none

theorem contactLine?_eq (t : LineTable) (i : Fin 8) : contactLine? t i = (List.finRange 24).findSome? (contactOf t i) := rfl

theorem contactOf_eq_some {t : LineTable} {i : Fin 8} {l m : Line} {q : Polarity} :
    contactOf t i l = some (m, q) ↔ l = m ∧ ∃ p, t.get l = .contact i p q := by
  unfold contactOf
  cases t.get l with
  | contact j p x => by_cases hj : j = i <;> simp [hj]
  | _ => simp

/-- The line and polarity of a contact of a map that validation passes (R96, R99). -/
theorem contactLine?_eq_some {t : LineTable} (h : validate t = none) (i : Fin 8) (l : Line) (q : Polarity) :
    contactLine? t i = some (l, q) ↔ ∃ p, t.get l = .contact i p q := by
  obtain ⟨hrepeat, -, -⟩ := validate_none h
  rw [contactLine?_eq]
  constructor
  · intro hfound
    obtain ⟨m, -, hm⟩ := List.exists_of_findSome?_eq_some hfound
    obtain ⟨rfl, hcontact⟩ := contactOf_eq_some.mp hm
    exact hcontact
  · rintro ⟨p, hp⟩
    have hl : contactOf t i l = some (l, q) := contactOf_eq_some.mpr ⟨rfl, p, hp⟩
    have hsome : ((List.finRange 24).findSome? (contactOf t i)).isSome :=
      List.findSome?_isSome_iff.mpr ⟨l, List.mem_finRange l, by simp [hl]⟩
    obtain ⟨⟨m, x⟩, hfound⟩ := Option.isSome_iff_exists.mp hsome
    obtain ⟨k, -, hk⟩ := List.exists_of_findSome?_eq_some hfound
    obtain ⟨rfl, p', hp'⟩ := contactOf_eq_some.mp hk
    have hsame : k = l := unique_of_no_repeat hrepeat
      ((sameUse_iff _ _).mpr (.inr (.inr ⟨i, p, q, p', x, hp, hp'⟩)))
      ((sameUse_iff _ _).mpr (.inr (.inr ⟨i, p', x, p, q, hp', hp⟩)))
    subst hsame
    rw [hfound, ← hk, hl]

/-! ## START and STOP -/

theorem startFailure_none {s : State} (h : s.scanner.enabled = true ∨ validate s.lines.entries = none) :
    startFailure s = none := by
  unfold startFailure
  rcases h with h | h <;> simp [h]

theorem startFailure_stopped {s : State} (h : s.scanner.enabled = false) : startFailure s = validate s.lines.entries := by
  simp [startFailure, h]

/-- What a START that passes leaves (R25, R27, R28, R48, R102). -/
theorem startNode_eq (s : State) :
    startNode s =
      { s with
        node := { s.node with state := .running, silenceTimer := some 0, startRefused := none }
        map := { s.map with lastValues := noLastValues }
        scanner := if s.scanner.enabled then s.scanner else s.scanner.enable s.lines.entries } := by
  unfold startNode startScanner
  split <;> rfl

/-- What a STOP in RUNNING leaves (R23, R30, R79, R103, R129). -/
theorem stopNode_eq {s : State} (h : s.node.state = .running) :
    stopNode s =
      { s with
        node := { s.node with state := .ready, silenceTimer := none }
        queue := s.queue.goBack
        scanner := s.scanner.disable
        contacts := Vector.ofFn fun i =>
          { s.contacts.get i with filtered := .unknown, agree := 0, lastRaw := false } } := by
  have hqueue : queueOnLeaving s.node s.queue = s.queue.goBack := if_pos (.inl h)
  unfold stopNode disableScanner disableContacts
  rw [leaveLoop_eq, leave_running h, hqueue]
  simp only [Bool.not_false, Bool.and_true]
  rfl

/-- A go-back moves neither the oldest sequence number nor the queue's length (R79). -/
theorem oldestSeq_goBack (q : Queue) : q.goBack.oldestSeq = q.oldestSeq := by
  unfold Queue.oldestSeq Queue.goBack
  cases q.reports <;> rfl

theorem length_goBack (q : Queue) : q.goBack.reports.length = q.reports.length := List.length_map _

theorem queueReply_startNode (s : State) : queueReply (startNode s) = queueReply s := by
  rw [startNode_eq]
  rfl

theorem queueReply_stopNode {s : State} (h : s.node.state = .running) : queueReply (stopNode s) = queueReply s := by
  rw [stopNode_eq h]
  simp only [queueReply, oldestSeq_goBack, length_goBack]

theorem serve_start {s : State} (hs : s.node.state = .ready)
    (h : s.scanner.enabled = true ∨ validate s.lines.entries = none) (v : PinView) (a : Args) :
    serve .start v a s = .taken .ok (queueReply s) (startNode s) := by
  simp only [serve, reqStart, require, hs, decide_true, if_true, startFailure_none h, queueReply_startNode]

theorem serve_stop {s : State} (hs : s.node.state = .running) (v : PinView) (a : Args) :
    serve .stop v a s = .taken .ok (queueReply s) (stopNode s) := by
  simp only [serve, reqStop, require, hs, decide_true, Bool.true_or, if_true, queueReply_stopNode hs]

/-- Settles O41: the lines of a validated map by the index they hold, and the two requests by what they leave. -/
theorem startAndStop : Obligations.StartAndStop := by
  refine ⟨fun t h => ?_, fun tag token a s count index h hf hs hv => ?_, fun tag token a s count index h hf hs => ?_⟩
  · obtain ⟨hrows, hrow⟩ := rows_handedOver h
    obtain ⟨hcolumns, hcolumn⟩ := columns_handedOver h
    exact ⟨hrows, hcolumns, hrow, hcolumn, contactLine?_eq_some h⟩
  · refine (congrArg Host.Outcome.next (requestCommand_taken h hf (serve_start hs hv noPins a))).trans ?_
    rw [startNode_eq]
    rfl
  · refine (congrArg Host.Outcome.next (requestCommand_taken h hf (serve_stop hs noPins a))).trans ?_
    rw [stopNode_eq hs]
    rfl

/-! ## Broadcast START and STOP -/

/-- A broadcast outside FALLBACK is acted on, and its slot passes as it came (R34, R176). -/
theorem requestCommand_broadcast {s : State} {count : Byte} {index : Nat} (h : s.awaitsSlot .normal count index)
    (hs : s.node.state ≠ .fallback) (token : Byte) (r : Request) (v : PinView) (a : Args) :
    requestCommand 0xFE token r v a s =
      (broadcast r s).slotSent .normal count index (requestSlot 0xFE token r.code a) := by
  rw [requestCommand_awaits h]
  simp only [requestArrives, mgmtSlot_broadcast hs]
  rfl

theorem broadcastStart_ignored {s : State} (h : s.node.state ≠ .ready) : broadcastStart s = s := by
  unfold broadcastStart
  cases hs : s.node.state with
  | ready => exact absurd hs h
  | _ => rfl

theorem broadcastStart_refused {s : State} {failure : StartReason × Line} (hs : s.node.state = .ready)
    (h : startFailure s = some failure) :
    broadcastStart s = bump ctrRefused (s.withNode { s.node with startRefused := some failure }) := by
  simp only [broadcastStart, hs, h]

theorem broadcastStart_taken {s : State} (hs : s.node.state = .ready) (h : startFailure s = none) :
    broadcastStart s = startNode s := by
  simp only [broadcastStart, hs, h]

theorem broadcastStop_ignored {s : State} (h : s.node.state ≠ .running) : broadcastStop s = s := by
  unfold broadcastStop
  cases hs : s.node.state with
  | running => exact absurd hs h
  | _ => rfl

theorem broadcastStop_taken {s : State} (hs : s.node.state = .running) : broadcastStop s = stopNode s := by
  simp only [broadcastStop, hs]

/-- Settles O42: a broadcast START or STOP is ignored, refused or taken by the node's state and the validation. -/
theorem broadcastStartAndStop : Obligations.BroadcastStartAndStop := by
  intro token a s count index h onStart onStop
  have ignored {r : Request} (hr : broadcast r s = s) :=
    congrArg (Host.Outcome.next : State → Outcome) (requestCommand_passes h (mgmtSlot_broadcast_ignored hr token noPins a))
  have acted {n : NodeState} (hs : s.node.state = n) (hn : n ≠ .fallback) (r : Request) :=
    congrArg (Host.Outcome.next : State → Outcome) (requestCommand_broadcast h (by rwa [hs]) token r noPins a)
  refine ⟨fun hs => ignored (r := .start) (broadcastStart_ignored hs), fun reason line hs he hv => ?_, fun hs hv => ?_,
    fun hs => ignored (r := .stop) (broadcastStop_ignored hs), fun hs => ?_⟩
  · refine (acted hs (by simp) .start).trans ?_
    simp only [broadcast, broadcastStart_refused hs ((startFailure_stopped he).trans hv)]
    rfl
  · refine (acted hs (by simp) .start).trans ?_
    simp only [broadcast, broadcastStart_taken hs (startFailure_none hv), startNode_eq]
    rfl
  · refine (acted hs (by simp) .stop).trans ?_
    simp only [broadcast, broadcastStop_taken hs, stopNode_eq hs]
    rfl

end Sys2Proof.Machine
end

section
/-! TAKE entries: what a DATA slot under one makes of its channel, in LEVEL and in EFFECT mode. -/

namespace Sys2Proof.Machine

/-! ## A TAKE's arrival -/

/-- A good DATA slot under a TAKE entry in RUNNING is taken, and passes as it came (R41, R42). -/
theorem execSlotArrival_take {s : State} {b : SlotBytes} {count : Byte} {i : Fin 48} {t : TakeEntry}
    (h : s.awaitsSlot .normal count i.val) (hg : goodSlot b) (hk : b.kind = 0x01) (hs : s.node.state = .running)
    (he : s.map.active.get i = .take t) (v : PinView) :
    execSlotArrival b v s = .next ((take i t b.payload s).slotSent .normal count i.val b) := by
  have hkind : SlotKind.ofCode b.kind = some .data := by rw [hk]; rfl
  have hdata : dataSlot i.val b.payload s = take i t b.payload s := by
    simp only [dataSlot, finOf_val, he]
  rw [execSlotArrival_awaits h, judgeSlot_normal hg hkind]
  simp only [dispatchSlot, hs, if_true, hdata, Option.getD_none]

/-- Under change-only a value equal to the last one is not taken (R43). -/
theorem take_unchanged {s : State} {i : Fin 48} {t : TakeEntry} {p : Payload}
    (h : t.changeOnly = true ∧ s.map.lastValues.get i = some (t.extract p)) : take i t p s = s := by
  simp [take, h]

/-- Any other value becomes the last value and is applied (R43). -/
theorem take_changed {s : State} {i : Fin 48} {t : TakeEntry} {p : Payload}
    (h : ¬(t.changeOnly = true ∧ s.map.lastValues.get i = some (t.extract p))) :
    take i t p s = applyTake t (t.extract p) (storeLastValue i (t.extract p) s) := by
  unfold take
  rw [if_neg (by rwa [Bool.and_eq_true, decide_eq_true_iff])]

theorem extract_first (t : TakeEntry) (p : Payload) : (t.extract p).first = payloadByte p t.offset.val := by
  unfold TakeEntry.extract takeValueOf
  split <;> rfl

/-- The second byte of an extracted value is 0 for width 1 (R42, R50). -/
theorem extract_second (t : TakeEntry) (p : Payload) :
    (t.extract p).second = if t.wide then payloadByte p (t.offset.val + 1) else 0 := by
  unfold TakeEntry.extract takeValueOf
  split <;> rfl

/-! ## LEVEL -/

theorem applyTake_level {t : TakeEntry} (h : t.mode = .level) (v : TakeValue) (s : State) :
    applyTake t v s =
      s.withEngine { s.engine with
        channels := setAt s.engine.channels t.channel ((s.engine.channels.get t.channel).driveLevel v) } := by
  unfold applyTake
  rw [h, drive_level]

/-- A LEVEL drive glides where a value of width 2 gives a length, and else sets the level at once (R147). -/
theorem driveLevel_eq (c : Channel) (v : TakeValue) :
    c.driveLevel v = if v.second ≠ 0 then { c with motion := .gliding c.level v.first v.second 0 } else c.steadyAt v.first := by
  cases v with
  | one b => rfl
  | two b ticks =>
    by_cases hticks : ticks = 0
    · subst hticks
      rfl
    · rw [driveLevel_glide c b hticks, if_pos (show (TakeValue.two b ticks).second ≠ 0 from hticks)]
      rfl

theorem driveLevel_extract (c : Channel) (t : TakeEntry) (p : Payload) :
    c.driveLevel (t.extract p) =
      if t.wide = true ∧ payloadByte p (t.offset.val + 1) ≠ 0 then
        { c with motion := .gliding c.level (payloadByte p t.offset.val) (payloadByte p (t.offset.val + 1)) 0 }
      else { c with motion := .steady, level := payloadByte p t.offset.val } := by
  rw [driveLevel_eq, extract_first, extract_second]
  cases t.wide <;> simp [Channel.steadyAt]

/-- Settles O13: an unchanged value is not taken, and any other is a LEVEL drive of the entry's channel. -/
theorem levelTakeDrivesItsChannel : Obligations.LevelTakeDrivesItsChannel := by
  refine ⟨fun p => rfl, fun s b v count i t h hg hk hs he hm => ?_⟩
  have hexec := execSlotArrival_take h hg hk hs he v
  refine ⟨fun hsame => ?_, fun hchanged => ?_⟩
  · refine hexec.trans ?_
    rw [take_unchanged hsame]
  · refine hexec.trans ?_
    rw [take_changed hchanged, applyTake_level hm, driveLevel_extract]
    rfl

/-! ## EFFECT -/

/-- An EFFECT drive of selector 0-31 starts that effect, with the value's second byte as its repeat override (R45, R46). -/
theorem applyTake_starts {t : TakeEntry} {v : TakeValue} {e : Fin 32} (h : t.mode = .effect) (hv : v.first.toNat = e.val)
    (s : State) :
    applyTake t v s =
      s.withEngine { s.engine with
        channels := setAt s.engine.channels t.channel
          (s.engine.startEffect e v.second (s.engine.channels.get t.channel)) } := by
  have hgood : goodSelector v.first = true := by simp [goodSelector, hv]
  unfold applyTake
  rw [h, drive_effect t.channel hgood]
  simp only [Engine.driveEffect, finOf_of_eq hv]

/-- An EFFECT drive of selector 255 stops the channel at its level (R45). -/
theorem applyTake_stops {t : TakeEntry} {v : TakeValue} (h : t.mode = .effect) (hv : v.first.toNat = 255) (s : State) :
    applyTake t v s =
      s.withEngine { s.engine with
        channels := setAt s.engine.channels t.channel (s.engine.channels.get t.channel).stopped } := by
  have hgood : goodSelector v.first = true := by
    have : v.first = 255 := by bv_omega
    simp [goodSelector, this]
  have hnone : finOf 32 v.first.toNat = none := finOf_of_le (by omega)
  unfold applyTake
  rw [h, drive_effect t.channel hgood]
  simp only [Engine.driveEffect, hnone]

/-- An EFFECT drive of selector 32-254 is counted and drives nothing (R45, R58). -/
theorem applyTake_counts {t : TakeEntry} {v : TakeValue} (h : t.mode = .effect) (hlow : 32 ≤ v.first.toNat)
    (hhigh : v.first.toNat ≤ 254) (s : State) : applyTake t v s = bump ctrBadTakes s := by
  have hnot : v.first ≠ 255 := by bv_omega
  unfold applyTake
  rw [h, drive_none t.channel hlow hnot]

/-- The runs of a start by a taken value (R46, R148). -/
theorem startRuns_extract (repeatCount : Byte) (t : TakeEntry) (p : Payload) :
    startRuns repeatCount (t.extract p).second =
      if t.wide = true ∧ payloadByte p (t.offset.val + 1) ≠ 0 then some (payloadByte p (t.offset.val + 1))
      else if repeatCount = 0 then none else some repeatCount := by
  rw [extract_second, startRuns]
  cases t.wide <;> simp

/-- Settles O14: an unchanged value is not taken, and any other is an EFFECT drive by its selector. -/
theorem effectTakeStartsStopsOrCounts : Obligations.EffectTakeStartsStopsOrCounts := by
  intro s b v count i t h hg hk hs he hm first second value c stored withChannel unchanged
  have hfirst : (t.extract b.payload).first = first := extract_first t b.payload
  have hexec := execSlotArrival_take h hg hk hs he v
  have taken (hu : ¬unchanged) :
      execSlotArrival b v s = .next ((applyTake t (t.extract b.payload) stored).slotSent .normal count i.val b) := by
    rw [hexec, take_changed hu]
    rfl
  rw [← hfirst]
  refine ⟨fun hu => ?_, fun e hu hv hn => ?_, fun e hu hv hn => ?_, fun hu hv => ?_, fun hu hlow hhigh => ?_⟩
  · refine hexec.trans ?_
    rw [take_unchanged hu]
  · refine (taken hu).trans ?_
    rw [applyTake_starts hm hv, startEffect_run (e := stored.engine) _ _ hn, startRuns_extract]
    rfl
  · refine (taken hu).trans ?_
    rw [applyTake_starts hm hv, startEffect_empty (e := stored.engine) _ _ hn]
    rfl
  · refine (taken hu).trans ?_
    rw [applyTake_stops hm hv]
    rfl
  · refine (taken hu).trans ?_
    rw [applyTake_counts hm hlow hhigh]

end Sys2Proof.Machine
end

section
/-! The packed forms of slot map entries, line entries and effect records: each form is read one field at a time, and each field is read
back from the byte it is shown in. -/

namespace Sys2Proof.Machine

/-! ## Fields -/

theorem natByte_toNat {n : Nat} (h : n < 256) : (natByte n).toNat = n := by
  simp [natByte, Nat.mod_eq_of_lt h]

theorem finOf_none {n x : Nat} : finOf n x = none ↔ n ≤ x := by
  simp [finOf]

theorem flagOf_eq_none {n : Nat} : flagOf n = none ↔ 2 ≤ n := by
  refine ⟨fun h => ?_, flagOf_none⟩
  by_contra hn
  have : n = 0 ∨ n = 1 := by omega
  rcases this with rfl | rfl <;> cases h

theorem wideOf_none {n : Nat} : wideOf n = none ↔ n ≠ 1 ∧ n ≠ 2 := by
  unfold wideOf
  split_ifs <;> simp_all

theorem driveModeOf_none {n : Nat} : driveModeOf n = none ↔ 2 ≤ n := by
  unfold driveModeOf
  split_ifs <;> simp <;> omega

theorem pullOf_none {n : Nat} : pullOf n = none ↔ 3 ≤ n := by
  unfold pullOf
  split_ifs <;> simp <;> omega

theorem driveOf_none {n : Nat} : driveOf n = none ↔ 3 ≤ n := by
  unfold driveOf
  split_ifs <;> simp <;> omega

theorem polarityOf_none {n : Nat} : polarityOf n = none ↔ 2 ≤ n := by
  unfold polarityOf
  split_ifs <;> simp <;> omega

/-- An end action is none where its code is above 2, or is CHAIN with an end value above 31 (R152). -/
theorem endActionOf_none {action : Nat} {value : Byte} :
    endActionOf action value = none ↔ 3 ≤ action ∨ action = 2 ∧ 32 ≤ value.toNat := by
  unfold endActionOf
  split_ifs <;> simp [finOf_none] <;> omega

@[simp] theorem flagOf_flagByte (b : Bool) : flagOf (flagByte b).toNat = some b := by
  cases b <;> rfl

@[simp] theorem driveModeOf_code (m : DriveMode) : driveModeOf m.code.toNat = some m := by
  cases m <;> rfl

@[simp] theorem pullOf_code (p : Pull) : pullOf p.code.toNat = some p := by
  cases p <;> rfl

@[simp] theorem driveOf_code (d : Drive) : driveOf d.code.toNat = some d := by
  cases d <;> rfl

@[simp] theorem polarityOf_code (q : Polarity) : polarityOf q.code.toNat = some q := by
  cases q <;> rfl

theorem wideOf_width (w : Bool) : wideOf (if w then 2 else 1) = some w := by
  cases w <;> rfl

/-- An index is read back from the byte it is shown in. -/
theorem finOf_natByte {n : Nat} (h : n ≤ 256) (i : Fin n) : finOf n (natByte i.val).toNat = some i :=
  finOf_of_eq (natByte_toNat (by omega))

theorem endActionOf_code (x : EndAction) : endActionOf x.code.toNat x.value = some x := by
  cases x with
  | hold v => rfl
  | level v => rfl
  | chain e =>
    have he : endActionOf (EndAction.chain e).code.toNat (EndAction.chain e).value =
        (finOf 32 (natByte e.val).toNat).map .chain := rfl
    rw [he, finOf_natByte (by decide)]
    rfl

/-- A form read field by field is none where its first field is, or where the rest is (R196). -/
theorem bind_eq_none {α β : Type} {x : Option α} {f : α → Option β} {rest : Prop} (h : ∀ a, f a = none ↔ rest) :
    (x >>= f) = none ↔ x = none ∨ rest := by
  cases x with
  | none => simp
  | some a => simpa using h a

theorem pure_eq_none {α : Type} (a : α) : (pure a : Option α) = none ↔ False := by
  simp

/-! ## Slot map entries -/

theorem mapEntryOf_pass {e0 : Byte} (h : e0.toNat % 4 = 0) (e1 e2 : Byte) : mapEntryOf e0 e1 e2 = some .pass := by
  simp [mapEntryOf, bits, h]

theorem mapEntryOf_offer {e0 : Byte} (h : e0.toNat % 4 = 2) (e1 e2 : Byte) : mapEntryOf e0 e1 e2 = some .offer := by
  simp [mapEntryOf, bits, h]

theorem mapEntryOf_badAction {e0 : Byte} (h : e0.toNat % 4 = 3) (e1 e2 : Byte) : mapEntryOf e0 e1 e2 = none := by
  simp [mapEntryOf, bits, h]

/-- A TAKE's five fields by the bits that hold them (10.5). -/
theorem mapEntryOf_take {e0 : Byte} (h : e0.toNat % 4 = 1) (e1 e2 : Byte) :
    mapEntryOf e0 e1 e2 = (do
      let offset ← finOf 7 (e1.toNat / 16)
      let wide ← wideOf (e1.toNat % 16)
      let channel ← finOf 16 e2.toNat
      let mode ← driveModeOf (e0.toNat / 4 % 4)
      let changeOnly ← flagOf (e0.toNat / 16 % 4)
      pure (.take { offset, wide, channel, mode, changeOnly })) := by
  have hoffset : e1.toNat / 16 % 16 = e1.toNat / 16 := by omega
  simp [mapEntryOf, bits, h, hoffset]

/-- When three bytes give no entry (R49, R196). -/
theorem mapEntryOf_none (e0 e1 e2 : Byte) : mapEntryOf e0 e1 e2 = none ↔
    e0.toNat % 4 = 3 ∨
    (e0.toNat % 4 = 1 ∧
      (7 ≤ e1.toNat / 16 ∨ (e1.toNat % 16 ≠ 1 ∧ e1.toNat % 16 ≠ 2) ∨ 16 ≤ e2.toNat ∨ 2 ≤ e0.toNat / 4 % 4 ∨
        2 ≤ e0.toNat / 16 % 4)) := by
  have haction : e0.toNat % 4 = 0 ∨ e0.toNat % 4 = 1 ∨ e0.toNat % 4 = 2 ∨ e0.toNat % 4 = 3 := by omega
  rcases haction with h | h | h | h
  · simp [mapEntryOf_pass h, h]
  · rw [mapEntryOf_take h]
    refine Iff.trans (bind_eq_none fun _ => bind_eq_none fun _ => bind_eq_none fun _ => bind_eq_none fun _ =>
      bind_eq_none fun _ => pure_eq_none _) ?_
    simp [h, finOf_none, wideOf_none, driveModeOf_none, flagOf_eq_none]
  · simp [mapEntryOf_offer h, h]
  · simp [mapEntryOf_badAction h, h]

/-- The bits of E0 that an entry is read from lie in its lower six (10.5). -/
theorem mapEntryOf_mask (e0 e1 e2 : Byte) : mapEntryOf e0 e1 e2 = mapEntryOf (e0 &&& 0x3F) e1 e2 := by
  have hmask : (e0 &&& 0x3F).toNat = e0.toNat % 64 := by
    rw [BitVec.toNat_and]
    exact Nat.and_two_pow_sub_one_eq_mod e0.toNat 6
  have haction : bits e0 0 2 = bits (e0 &&& 0x3F) 0 2 := by rw [bits, bits, hmask]; omega
  have hmode : bits e0 2 2 = bits (e0 &&& 0x3F) 2 2 := by rw [bits, bits, hmask]; omega
  have hchange : bits e0 4 2 = bits (e0 &&& 0x3F) 4 2 := by rw [bits, bits, hmask]; omega
  simp only [mapEntryOf, haction, hmode, hchange]

theorem mode_code_le (m : DriveMode) : m.code.toNat ≤ 1 := by
  cases m <;> decide

theorem flagByte_le (b : Bool) : (flagByte b).toNat ≤ 1 := by
  cases b <;> decide

/-- A TAKE entry's bytes as numbers (10.5). -/
theorem take_e0_toNat (t : TakeEntry) :
    (MapEntry.take t).e0.toNat = 1 + 4 * t.mode.code.toNat + 16 * (flagByte t.changeOnly).toNat := by
  have hmode := mode_code_le t.mode
  have hchange := flagByte_le t.changeOnly
  have he0 : (MapEntry.take t).e0 = 1 + 4 * t.mode.code + 16 * flagByte t.changeOnly := rfl
  bv_omega

/-- E0 of a TAKE entry as 10.5 lays it out. -/
theorem take_e0_eq (t : TakeEntry) :
    (MapEntry.take t).e0 = natByte (1 + 4 * (if t.mode = .effect then 1 else 0) + 16 * (if t.changeOnly then 1 else 0)) := by
  have hmode : t.mode.code.toNat = if t.mode = .effect then 1 else 0 := by cases t.mode <;> rfl
  have hchange : (flagByte t.changeOnly).toNat = if t.changeOnly then 1 else 0 := by cases t.changeOnly <;> rfl
  have hm := mode_code_le t.mode
  have hc := flagByte_le t.changeOnly
  apply BitVec.eq_of_toNat_eq
  rw [take_e0_toNat, natByte_toNat (by omega), hmode, hchange]

theorem take_e1_toNat (t : TakeEntry) : (MapEntry.take t).e1.toNat = 16 * t.offset.val + if t.wide then 2 else 1 := by
  refine natByte_toNat ?_
  split <;> omega

theorem mapEntryOf_bytes (e : MapEntry) : mapEntryOf e.e0 e.e1 e.e2 = some e := by
  cases e with
  | pass => exact mapEntryOf_pass rfl _ _
  | offer => exact mapEntryOf_offer rfl _ _
  | take t =>
    have he0 := take_e0_toNat t
    have he1 := take_e1_toNat t
    have hm := mode_code_le t.mode
    have hc := flagByte_le t.changeOnly
    have hwidth : (if t.wide then 2 else 1) ≤ 2 := by split <;> decide
    have hmode : (MapEntry.take t).e0.toNat / 4 % 4 = t.mode.code.toNat := by omega
    have hchange : (MapEntry.take t).e0.toNat / 16 % 4 = (flagByte t.changeOnly).toNat := by omega
    have hoffset : (MapEntry.take t).e1.toNat / 16 = t.offset.val := by omega
    have hwide : (MapEntry.take t).e1.toNat % 16 = if t.wide then 2 else 1 := by omega
    have hchannel : finOf 16 (MapEntry.take t).e2.toNat = some t.channel := finOf_natByte (by decide) t.channel
    rw [mapEntryOf_take (by omega), hmode, hchange, hoffset, hwide, hchannel, wideOf_width, finOf_val, driveModeOf_code,
      flagOf_flagByte]
    rfl

/-! ## Line entries -/

theorem lineEntryOf_row (index option polarity : Byte) :
    lineEntryOf 1 index option polarity = (finOf 8 index.toNat).map .row := rfl

theorem lineEntryOf_column (index option polarity : Byte) :
    lineEntryOf 2 index option polarity = (finOf 8 index.toNat).map .column := rfl

theorem lineEntryOf_contact (index option polarity : Byte) :
    lineEntryOf 3 index option polarity = (do
      let i ← finOf 8 index.toNat
      let p ← pullOf option.toNat
      let q ← polarityOf polarity.toNat
      pure (.contact i p q)) := rfl

theorem lineEntryOf_indicator (index option polarity : Byte) :
    lineEntryOf 4 index option polarity = (do
      let c ← finOf 16 index.toNat
      let d ← driveOf option.toNat
      let q ← polarityOf polarity.toNat
      pure (.indicator c d q)) := rfl

theorem lineEntryOf_badFunction {function : Byte} (h : 5 ≤ function.toNat) (index option polarity : Byte) :
    lineEntryOf function index option polarity = none := by
  unfold lineEntryOf
  rw [if_neg (by bv_omega), if_neg (by bv_omega), if_neg (by bv_omega), if_neg (by bv_omega), if_neg (by bv_omega)]

theorem lineEntryOf_bytes (e : LineEntry) : lineEntryOf e.function e.index e.option e.polarity = some e := by
  cases e with
  | unused => rfl
  | row i => exact (lineEntryOf_row _ _ _).trans (by rw [LineEntry.index, finOf_natByte (by decide)]; rfl)
  | column i => exact (lineEntryOf_column _ _ _).trans (by rw [LineEntry.index, finOf_natByte (by decide)]; rfl)
  | contact i p q =>
    refine (lineEntryOf_contact _ _ _).trans ?_
    simp only [LineEntry.index, LineEntry.option, LineEntry.polarity, finOf_natByte (n := 8) (by decide), pullOf_code,
      polarityOf_code]
    rfl
  | indicator c d q =>
    refine (lineEntryOf_indicator _ _ _).trans ?_
    simp only [LineEntry.index, LineEntry.option, LineEntry.polarity, finOf_natByte (n := 16) (by decide), driveOf_code,
      polarityOf_code]
    rfl

/-- When a function code, an index and the two options give no entry (R94, R196). -/
theorem lineEntryOf_none (function index option polarity : Byte) : lineEntryOf function index option polarity = none ↔
    5 ≤ function.toNat ∨
    (1 ≤ function.toNat ∧ function.toNat ≤ 3 ∧ 8 ≤ index.toNat) ∨
    (function = 4 ∧ 16 ≤ index.toNat) ∨
    ((function = 3 ∨ function = 4) ∧ (3 ≤ option.toNat ∨ 2 ≤ polarity.toNat)) := by
  have hcode : function = 0 ∨ function = 1 ∨ function = 2 ∨ function = 3 ∨ function = 4 ∨ 5 ≤ function.toNat := by bv_omega
  rcases hcode with rfl | rfl | rfl | rfl | rfl | h
  · simp [lineEntryOf]
  · rw [lineEntryOf_row]
    simp [finOf_none]
  · rw [lineEntryOf_column]
    simp [finOf_none]
  · rw [lineEntryOf_contact]
    refine Iff.trans (bind_eq_none fun _ => bind_eq_none fun _ => bind_eq_none fun _ => pure_eq_none _) ?_
    simp [finOf_none, pullOf_none, polarityOf_none]
  · rw [lineEntryOf_indicator]
    refine Iff.trans (bind_eq_none fun _ => bind_eq_none fun _ => bind_eq_none fun _ => pure_eq_none _) ?_
    simp [finOf_none, driveOf_none, polarityOf_none]
  · simp [lineEntryOf_badFunction h, h]

/-! ## Effect records -/

/-- A record's fields by the bits that hold them (10.5). -/
theorem effectRecordOf_eq (f0 f1 f2 f3 : Byte) :
    effectRecordOf f0 f1 f2 f3 = (do
      let first ← finOf 128 f0.toNat
      let count ← finOf 9 (f1.toNat % 16)
      let endAction ← endActionOf (f1.toNat / 16 % 4) f3
      let notify ← flagOf (f1.toNat / 64)
      if rangeFits first count then pure { first, count, repeatCount := f2, endAction, notify } else none) := by
  have hnotify : f1.toNat / 64 % 4 = f1.toNat / 64 := by omega
  simp [effectRecordOf, bits, hnotify]

theorem endAction_code_le (x : EndAction) : x.code.toNat ≤ 2 := by
  cases x <;> decide +revert

theorem f1_toNat (r : EffectRecord) :
    r.f1.toNat = r.count.val + 16 * r.endAction.code.toNat + 64 * (flagByte r.notify).toNat := by
  have hcount : (natByte r.count.val).toNat = r.count.val := natByte_toNat (by omega)
  have hcode := endAction_code_le r.endAction
  have hnotify := flagByte_le r.notify
  unfold EffectRecord.f1
  bv_omega

theorem effectRecordOf_bytes {r : EffectRecord} (h : rangeFits r.first r.count = true) :
    effectRecordOf (natByte r.first.val) r.f1 r.repeatCount r.endAction.value = some r := by
  have hf1 := f1_toNat r
  have ha := endAction_code_le r.endAction
  have hn := flagByte_le r.notify
  have hcount : r.f1.toNat % 16 = r.count.val := by omega
  have haction : r.f1.toNat / 16 % 4 = r.endAction.code.toNat := by omega
  have hnotify : r.f1.toNat / 64 = (flagByte r.notify).toNat := by omega
  rw [effectRecordOf_eq, hcount, haction, hnotify, finOf_natByte (by decide), finOf_val, endActionOf_code, flagOf_flagByte]
  exact if_pos h

/-- A range lies in the pool unless it is not empty and passes the pool's end (R152). -/
theorem rangeFits_false {first : Fin 128} {count : Fin 9} :
    rangeFits first count = false ↔ count.val ≠ 0 ∧ 128 < first.val + count.val := by
  simp [rangeFits]

/-- When four bytes give no record (R152, R196). -/
theorem effectRecordOf_none (f0 f1 f2 f3 : Byte) : effectRecordOf f0 f1 f2 f3 = none ↔
    128 ≤ f0.toNat ∨ 9 ≤ f1.toNat % 16 ∨ 3 ≤ f1.toNat / 16 % 4 ∨ (f1.toNat / 16 % 4 = 2 ∧ 32 ≤ f3.toNat) ∨
    2 ≤ f1.toNat / 64 ∨ (f1.toNat % 16 ≠ 0 ∧ 128 < f0.toNat + f1.toNat % 16) := by
  rw [effectRecordOf_eq]
  by_cases hfirst : 128 ≤ f0.toNat
  · simp [finOf_of_le hfirst, hfirst]
  by_cases hcount : 9 ≤ f1.toNat % 16
  · simp [finOf_of_le hcount, hcount]
  have hf : finOf 128 f0.toNat = some ⟨f0.toNat, by omega⟩ := finOf_of_eq rfl
  have hc : finOf 9 (f1.toNat % 16) = some ⟨f1.toNat % 16, by omega⟩ := finOf_of_eq rfl
  rw [hf, hc]
  change (endActionOf (f1.toNat / 16 % 4) f3 >>= fun endAction => flagOf (f1.toNat / 64) >>= fun notify => _) = none ↔ _
  refine Iff.trans (b := endActionOf (f1.toNat / 16 % 4) f3 = none ∨ flagOf (f1.toNat / 64) = none ∨
    (f1.toNat % 16 ≠ 0 ∧ 128 < f0.toNat + f1.toNat % 16)) (bind_eq_none fun _ => bind_eq_none fun _ => ?_) ?_
  · rw [← rangeFits_false (first := ⟨f0.toNat, by omega⟩) (count := ⟨f1.toNat % 16, by omega⟩)]
    simp
  · simp [endActionOf_none, flagOf_eq_none, hfirst, hcount, or_assoc]

/-- F1 of a record as 10.5 lays it out. -/
theorem f1_eq (r : EffectRecord) :
    r.f1 = natByte (r.count.val + 16 * r.endAction.code.toNat + 64 * (if r.notify then 1 else 0)) := by
  have hcode := endAction_code_le r.endAction
  have hnotify : (flagByte r.notify).toNat = if r.notify then 1 else 0 := by cases r.notify <;> rfl
  have hle := flagByte_le r.notify
  apply BitVec.eq_of_toNat_eq
  rw [f1_toNat, natByte_toNat (by omega), hnotify]

/-- Settles O33: each form's bytes are read back field by field, and a form gives nothing where one of its fields does not. -/
theorem packedEntriesReadBack : Obligations.PackedEntriesReadBack := by
  refine ⟨mapEntryOf_bytes, lineEntryOf_bytes, fun r => effectRecordOf_bytes, fun t => ?_, rfl,
    fun e0 e1 e2 => ⟨fun h => mapEntryOf_pass h e1 e2, fun h => mapEntryOf_offer h e1 e2, mapEntryOf_mask e0 e1 e2⟩, f1_eq,
    fun i ch p d q => ⟨rfl, rfl, rfl, rfl⟩, ⟨rfl, rfl, rfl, rfl, rfl, fun v i => ⟨rfl, rfl, rfl, rfl⟩⟩, mapEntryOf_none,
    lineEntryOf_none, fun index option polarity => ⟨rfl, rfl, rfl⟩, effectRecordOf_none⟩
  · rw [take_e0_eq]
    rfl

end Sys2Proof.Machine
end

section
/-! MAP WRITE, MAP READ and MAP COMMIT. -/

namespace Sys2Proof.Machine

/-! ## The rows of requests -/

section
variable {s : State} {tag token count : Byte} {index : Nat} {a : Args} (r : Request) {v : PinView} {st : Status} {d : ReplyData}

/-- A row whose request is taken is answered with its reply (R165, R166). -/
theorem row_taken {t : State} (h : s.serves tag count index) (hf : s.fresh token r.code a)
    (hv : serve r v a s = .taken st d t) :
    (Host.Outcome.next (requestCommand tag token r v a s) : Outcome) =
      .next (t.replied count index tag token r.code a st d) := by
  rw [requestCommand_taken h hf hv]

/-- A row whose request is refused is answered with the refusal (R166, R167). -/
theorem row_refused (h : s.serves tag count index) (hf : s.fresh token r.code a) (hv : serve r v a s = .refused st d) :
    (Host.Outcome.next (requestCommand tag token r v a s) : Outcome) = .next (s.refusal count index tag token st d) := by
  rw [requestCommand_refused h hf hv]

end

/-! ## The slot map's requests -/

/-- When an entry may be in the active map (R38, R51). -/
theorem fits_iff (e : MapEntry) :
    e.fits = true ↔ ∀ t, e = .take t → t.offset.val + (if t.wide then 2 else 1) ≤ 7 := by
  cases e <;> simp [MapEntry.fits]

/-- A byte below `n` is an index. -/
theorem exists_index {n : Nat} {x : Byte} (h : x.toNat < n) : ∃ i : Fin n, x.toNat = i.val := ⟨⟨x.toNat, h⟩, rfl⟩

section
variable {a : Args} {s : State} {i : Fin 48} (v : PinView)

theorem serve_mapWrite {e : MapEntry} (hi : a.a0.toNat = i.val) (he : mapEntryOf a.a1 a.a2 a.a3 = some e)
    (hp : s.map.commitPending = false) :
    serve .mapWrite v a s =
      .taken .ok (mapEntryData a.a0 e) (s.withMap { s.map with staging := setAt s.map.staging i e }) := by
  simp only [serve, reqMapWrite, finOf_of_eq hi, he, hp, withIndex, withValue, require, Bool.not_false, if_true]

theorem serve_mapWrite_badValue (hi : a.a0.toNat = i.val) (he : mapEntryOf a.a1 a.a2 a.a3 = none) :
    serve .mapWrite v a s = .refused .badValue noData := by
  simp only [serve, reqMapWrite, finOf_of_eq hi, he, withIndex, withValue, refuse]

theorem serve_mapRead {staging : Bool} (hi : a.a0.toNat = i.val) (hf : flagOf a.a1.toNat = some staging) :
    serve .mapRead v a s =
      .taken .ok
        (if staging then mapReadData (s.map.staging.get i) none
          else mapReadData (s.map.active.get i) (s.map.lastValues.get i)) s := by
  simp only [serve, reqMapRead, finOf_of_eq hi, hf, withIndex, withValue]
  split <;> rfl

theorem serve_mapRead_badValue (hi : a.a0.toNat = i.val) (hf : 2 ≤ a.a1.toNat) :
    serve .mapRead v a s = .refused .badValue noData := by
  simp only [serve, reqMapRead, finOf_of_eq hi, flagOf_none hf, withIndex, withValue, refuse]

theorem serve_mapCommit (hp : s.map.commitPending = false) (hfit : ∀ i, (s.map.staging.get i).fits = true) :
    serve .mapCommit v a s =
      .taken .pending
        { noData with d0 := natByte (s.map.countStaging MapEntry.isTake), d1 := natByte (s.map.countStaging MapEntry.isOffer) }
        (s.withMap { s.map with commitPending := true }) := by
  have hbad : s.map.badEntry? = none := find?_finRange_none.mpr fun i => by simp [hfit i]
  simp only [serve, reqMapCommit, hp, hbad, require, Bool.not_false, if_true]

end

/-- Where there is no last value to show, or no TAKE to hold one, MAP READ shows the entry alone (R50). -/
theorem mapReadData_entry {e : MapEntry} {last : Option TakeValue} (h : e.isTake = false ∨ last = none) :
    mapReadData e last = { d0 := e.e0, d1 := e.e1, d2 := e.e2, d3 := 0, d4 := 0 } := by
  cases e with
  | take t =>
    obtain rfl := h.resolve_left (by simp [MapEntry.isTake])
    rfl
  | _ => rfl

/-- A TAKE's last value is shown with the presence flag in bit 6 of E0 (R50, 10.5). -/
theorem mapReadData_last {e : MapEntry} (h : e.isTake = true) (x : TakeValue) :
    mapReadData e (some x) = { d0 := e.e0 + 64, d1 := e.e1, d2 := e.e2, d3 := x.first, d4 := x.second } := by
  obtain ⟨t, rfl⟩ := (isTake_iff e).mp h
  rfl

theorem countStaging_eq (m : SlotMap) (f : MapEntry → Bool) :
    m.countStaging f = (List.finRange 48).countP fun i => f (m.staging.get i) := List.countP_eq_length_filter.symm

/-- Settles O43: each request by what the agent's catalogue makes of it. -/
theorem mapRequestsLoadAndCommit : Obligations.MapRequestsLoadAndCommit := by
  refine ⟨fits_iff, fun tag token a s count index h => ?_⟩
  refine ⟨fun i e hf hi he hp => row_taken .mapWrite h hf (serve_mapWrite noPins hi he hp), fun hf hi hv => ?_, fun hf hi hv => ?_,
    fun i hf hi hsel => ?_, fun i hf hi hsel => ?_, fun hf hp hfit => ?_⟩
  · obtain ⟨i, hi⟩ := exists_index hi
    exact row_refused .mapWrite h hf (serve_mapWrite_badValue noPins hi ((mapEntryOf_none _ _ _).mpr hv))
  · obtain ⟨i, hi⟩ := exists_index hi
    exact row_refused .mapRead h hf (serve_mapRead_badValue noPins hi hv)
  · refine (row_taken .mapRead h hf (serve_mapRead noPins hi (staging := true) (by rw [hsel]; rfl))).trans ?_
    rw [if_pos rfl, mapReadData_entry (.inr rfl)]
    rfl
  · have hread := row_taken .mapRead h hf (serve_mapRead noPins hi (staging := false) (by rw [hsel]; rfl))
    refine ⟨fun x ht hx => hread.trans ?_, fun hnone => hread.trans ?_⟩
    · rw [hx, mapReadData_last ht]
      rfl
    · rw [mapReadData_entry hnone]
      rfl
  · refine (row_taken .mapCommit h hf (serve_mapCommit noPins hp hfit)).trans ?_
    rw [countStaging_eq, countStaging_eq]
    rfl

end Sys2Proof.Machine
end

section
/-! The resource checks, and the four outcomes of line map validation each by the lines that give it. -/

namespace Sys2Proof.Machine

/-! ## Line map validation (R96 to R98) -/

/-- R and C count the lines of function code 1 and 2 (R97). -/
theorem rowCount_eq_countP (t : LineTable) :
    rowCount t = (List.finRange 24).countP (fun l => (t.get l).function = 0x01) := by
  rw [rowCount, List.countP_eq_length_filter]
  congr 2
  funext l
  cases t.get l <;> rfl

theorem columnCount_eq_countP (t : LineTable) :
    columnCount t = (List.finRange 24).countP (fun l => (t.get l).function = 0x02) := by
  rw [columnCount, List.countP_eq_length_filter]
  congr 2
  funext l
  cases t.get l <;> rfl

/-- A lowest index is the only one. -/
theorem lowest_unique {n : Nat} {p : Fin n → Bool} {i j : Fin n} (hi : p i = true ∧ ∀ k < i, p k = false)
    (hj : p j = true ∧ ∀ k < j, p k = false) : i = j :=
  Option.some.inj ((find?_finRange.mpr hi).symm.trans (find?_finRange.mpr hj))

/-- DUPLICATE_LINE names the lowest repeat (R96). -/
theorem validate_duplicateLine_iff (t : LineTable) (l : Line) :
    validate t = some (.duplicateLine, l) ↔ isRepeat t l = true ∧ ∀ m < l, isRepeat t m = false := by
  rcases validate_cases t with ⟨k, hv, hk⟩ | ⟨k, hv, hrepeat, -⟩ | ⟨k, hv, hrepeat, -⟩ | ⟨hv, hrepeat, -⟩
  · refine ⟨fun h => ?_, fun h => ?_⟩
    · obtain rfl : k = l := by simpa [hv] using h
      exact hk
    · rw [hv, lowest_unique hk h]
  · simp [hv, hrepeat]
  · simp [hv, hrepeat]
  · simp [hv, hrepeat]

/-- GAP names the lowest gap of a map without repeats (R97). -/
theorem validate_gap_iff (t : LineTable) (l : Line) :
    validate t = some (.gap, l) ↔
      (∀ m, isRepeat t m = false) ∧ isGap t l = true ∧ ∀ m < l, isGap t m = false := by
  rcases validate_cases t with ⟨k, hv, hk, -⟩ | ⟨k, hv, hrepeat, hk⟩ | ⟨k, hv, -, hgap, -⟩ | ⟨hv, -, hgap, -⟩
  · refine ⟨fun h => by simp [hv] at h, fun h => by simp [h.1 k] at hk⟩
  · refine ⟨fun h => ?_, fun h => ?_⟩
    · obtain rfl : k = l := by simpa [hv] using h
      exact ⟨hrepeat, hk⟩
    · rw [hv, lowest_unique hk h.2]
  · simp [hv, hgap]
  · simp [hv, hgap]

/-- A map with a matrix line has rows or columns. -/
theorem counts_of_isMatrixLine {t : LineTable} {l : Line} (h : isMatrixLine t l = true) :
    0 < rowCount t ∨ 0 < columnCount t := by
  rcases (isMatrixLine_iff t l).mp h with hrow | hcolumn
  · exact .inl ((rowCount_pos t).mpr ⟨l, hrow⟩)
  · exact .inr ((columnCount_pos t).mpr ⟨l, hcolumn⟩)

/-- HALF_MATRIX names the lowest matrix line of a map with one of rows and columns alone (R98). -/
theorem validate_halfMatrix_iff (t : LineTable) (l : Line) :
    validate t = some (.halfMatrix, l) ↔
      (∀ m, isRepeat t m = false) ∧ (∀ m, isGap t m = false) ∧ (rowCount t = 0 ∨ columnCount t = 0) ∧
        isMatrixLine t l = true ∧ ∀ m < l, isMatrixLine t m = false := by
  rcases validate_cases t with ⟨k, hv, hk, -⟩ | ⟨k, hv, -, hk, -⟩ | ⟨k, hv, hrepeat, hgap, hhalf, hk⟩ | ⟨hv, -, -, hboth⟩
  · refine ⟨fun h => by simp [hv] at h, fun h => by simp [h.1 k] at hk⟩
  · refine ⟨fun h => by simp [hv] at h, fun h => by simp [h.2.1 k] at hk⟩
  · refine ⟨fun h => ?_, fun ⟨_, _, _, h⟩ => ?_⟩
    · obtain rfl : k = l := by simpa [hv] using h
      exact ⟨hrepeat, hgap, hhalf, hk⟩
    · rw [hv, lowest_unique hk h]
  · refine ⟨fun h => by simp [hv] at h, fun ⟨_, _, hhalf, hl, _⟩ => ?_⟩
    have := counts_of_isMatrixLine hl
    omega

theorem validate_none_iff (t : LineTable) :
    validate t = none ↔
      (∀ m, isRepeat t m = false) ∧ (∀ m, isGap t m = false) ∧ (rowCount t = 0 ↔ columnCount t = 0) := by
  refine ⟨validate_none, fun ⟨hrepeat, hgap, hboth⟩ => ?_⟩
  rcases validate_cases t with ⟨k, -, hk, -⟩ | ⟨k, -, -, hk, -⟩ | ⟨k, -, -, -, hhalf, hk, -⟩ | ⟨hv, -⟩
  · simp [hrepeat] at hk
  · simp [hgap] at hk
  · have := counts_of_isMatrixLine hk
    omega
  · exact hv

theorem isMatrixLine_of_noColumns {t : LineTable} (h : columnCount t = 0) (l : Line) :
    isMatrixLine t l = true ↔ ∃ i, t.get l = .row i := by
  have hnone : ¬∃ i, t.get l = .column i := fun hl => (Nat.pos_iff_ne_zero.mp ((columnCount_pos t).mpr ⟨l, hl⟩)) h
  rw [isMatrixLine_iff, or_iff_left hnone]

theorem isMatrixLine_of_noRows {t : LineTable} (h : rowCount t = 0) (l : Line) :
    isMatrixLine t l = true ↔ ∃ i, t.get l = .column i := by
  have hnone : ¬∃ i, t.get l = .row i := fun hl => (Nat.pos_iff_ne_zero.mp ((rowCount_pos t).mpr ⟨l, hl⟩)) h
  rw [isMatrixLine_iff, or_iff_right hnone]

/-- In a half matrix the lowest matrix line is the lowest line of the one function present (R98). -/
theorem lowest_halfMatrix_iff (t : LineTable) (l : Line) :
    ((rowCount t = 0 ∨ columnCount t = 0) ∧ isMatrixLine t l = true ∧ ∀ m < l, ¬isMatrixLine t m = true) ↔
      (0 < rowCount t ∧ columnCount t = 0 ∧ (∃ i, t.get l = .row i) ∧ ∀ m < l, ¬∃ i, t.get m = .row i) ∨
      (rowCount t = 0 ∧ 0 < columnCount t ∧ (∃ i, t.get l = .column i) ∧ ∀ m < l, ¬∃ i, t.get m = .column i) := by
  by_cases hcolumns : columnCount t = 0
  · simp only [isMatrixLine_of_noColumns hcolumns, hcolumns, or_true, true_and, lt_irrefl, false_and, and_false, or_false]
    exact ⟨fun h => ⟨(rowCount_pos t).mpr ⟨l, h.1⟩, h⟩, And.right⟩
  · by_cases hrows : rowCount t = 0
    · simp only [isMatrixLine_of_noRows hrows, hrows, true_or, true_and, lt_irrefl, false_and, false_or]
      exact ⟨fun h => ⟨Nat.pos_of_ne_zero hcolumns, h⟩, And.right⟩
    · simp [hcolumns, hrows]

/-! ## The resource checks (R171) -/

/-- The settings a SCAN SET of part CONTACT may hold are read (R131). -/
theorem senseOf_of_le {x : Byte} (h : x.toNat ≤ 4) : ∃ sense, senseOf x.toNat = some sense ∧ (x = 4 → sense = .whileActive) := by
  have hx : x = 0 ∨ x = 1 ∨ x = 2 ∨ x = 3 ∨ x = 4 := by bv_omega
  rcases hx with rfl | rfl | rfl | rfl | rfl
  · exact ⟨.off, rfl, by decide⟩
  · exact ⟨.onActivate, rfl, by decide⟩
  · exact ⟨.onRelease, rfl, by decide⟩
  · exact ⟨.onBoth, rfl, by decide⟩
  · exact ⟨.whileActive, rfl, fun _ => rfl⟩

theorem filterOf_of_le {x : Byte} (h : x.toNat ≤ 15) : ∃ filter, filterOf x = some filter :=
  ⟨_, if_pos (by omega)⟩

section
variable {a : Args} {s : State} (v : PinView)

theorem serve_mapWrite_busy (hp : s.map.commitPending = true) (hi : a.a0.toNat < 48)
    (he : (mapEntryOf a.a1 a.a2 a.a3).isSome = true) : serve .mapWrite v a s = .refused .busy noData := by
  obtain ⟨i, hi⟩ := exists_index hi
  obtain ⟨e, he⟩ := Option.isSome_iff_exists.mp he
  simp [serve, reqMapWrite, finOf_of_eq hi, he, hp, withIndex, withValue, require, refuse]

theorem serve_mapCommit_busy (hp : s.map.commitPending = true) : serve .mapCommit v a s = .refused .busy noData := by
  simp [serve, reqMapCommit, hp, require, refuse]

/-- MAP COMMIT names the lowest entry that does not fit (R51). -/
theorem serve_mapCommit_invalid {i : Fin 48} (hp : s.map.commitPending = false) (hi : (s.map.staging.get i).fits = false)
    (hlow : ∀ j < i, (s.map.staging.get j).fits = true) :
    serve .mapCommit v a s = .refused .invalidConfig { noData with d0 := natByte i.val } := by
  have hbad : s.map.badEntry? = some i := find?_finRange.mpr ⟨by simp [hi], fun j hj => by simp [hlow j hj]⟩
  simp [serve, reqMapCommit, hp, hbad, require]

theorem serve_start_invalid {failure : StartReason × Line} (hs : s.node.state = .ready) (he : s.scanner.enabled = false)
    (hv : validate s.lines.entries = some failure) :
    serve .start v a s = .refused .invalidConfig (startFailureData failure) := by
  simp [serve, reqStart, require, hs, startFailure_stopped he, hv]

theorem serve_scanSetMatrix_busy (he : s.scanner.enabled = true) (h0 : a.a0 = 0)
    (h1 : 1 ≤ a.a1.toNat ∧ a.a1.toNat ≤ 32) (h2 : 1 ≤ a.a2.toNat ∧ a.a2.toNat ≤ 15) :
    serve .scanSet v a s = .refused .busy noData := by
  simp [serve, reqScanSet, h0, reqScanSetMatrix, h1, h2, he, require, refuse]

theorem serve_scanSetContact_busy {i : Fin 8} (h0 : a.a0 = 1) (h1 : a.a1.toNat = i.val) (h2 : a.a2.toNat ≤ 4)
    (h3 : a.a3.toNat ≤ 15) (h : s.scanner.enabled = true ∨ a.a2 = 4 ∧ 2 ≤ (s.contacts.get i).queued) :
    serve .scanSet v a s = .refused .busy noData := by
  obtain ⟨sense, hsense, hactive⟩ := senseOf_of_le h2
  obtain ⟨filter, hfilter⟩ := filterOf_of_le h3
  have hbusy : (!s.scanner.enabled && !(sense = .whileActive && 2 ≤ (s.contacts.get i).queued)) = false := by
    rcases h with h | ⟨h4, hqueued⟩
    · simp [h]
    · simp [hactive h4, hqueued]
  simp only [serve, reqScanSet, h0, reqScanSetContact, finOf_of_eq h1, hsense, hfilter, withIndex, withValue, require, hbusy,
    refuse]
  rfl

theorem serve_effectWrite_inUse {i : Fin 32} (hi : a.a0.toNat = i.val)
    (hr : (effectRecordOf a.a1 a.a2 a.a3 a.a4).isSome = true) (hplay : s.engine.inPlay i = true) :
    serve .effectWrite v a s = .refused .inUse noData := by
  obtain ⟨r, hr⟩ := Option.isSome_iff_exists.mp hr
  simp [serve, reqEffectWrite, finOf_of_eq hi, hr, hplay, withIndex, withValue, require, refuse]

theorem serve_segmentWrite_inUse {j : Fin 128} (hj : a.a0.toNat = j.val) (huse : s.engine.segmentInUse j = true) :
    serve .segmentWrite v a s = .refused .inUse noData := by
  simp [serve, reqSegmentWrite, finOf_of_eq hj, huse, withIndex, require, refuse]

end

/-- Settles O32: the outcome of validation by its four cases, and each check by the row of the catalogue that makes it. -/
theorem checksOfResources : Obligations.ChecksOfResources := by
  refine ⟨fun t => ?_, fun tag token a s count index h => ?_⟩
  · intro isRow isColumn repeats gap lowest
    have hrepeat (l : Line) : isRepeat t l = true ↔ repeats l := by
      simp only [isRepeat_iff, sameUse_iff]
      rfl
    have hgap (l : Line) : isGap t l = true ↔ gap l := isGap_iff t l
    refine ⟨rowCount_eq_countP t, columnCount_eq_countP t, fun l => ?_, fun l => ?_, fun l => ?_, ?_⟩
    · rw [validate_duplicateLine_iff]
      simp only [← Bool.not_eq_true, hrepeat]
      rfl
    · rw [validate_gap_iff]
      simp only [← Bool.not_eq_true, hrepeat, hgap]
      rfl
    · rw [validate_halfMatrix_iff]
      simp only [← Bool.not_eq_true, lowest_halfMatrix_iff, hrepeat, hgap]
      rfl
    · rw [validate_none_iff]
      simp only [← Bool.not_eq_true, hrepeat, hgap]
  · exact ⟨fun hf hp hi he => row_refused .mapWrite h hf (serve_mapWrite_busy noPins hp hi he),
      fun hf hp => row_refused .mapCommit h hf (serve_mapCommit_busy noPins hp),
      fun i hf hp hi hlow => row_refused .mapCommit h hf (serve_mapCommit_invalid noPins hp hi hlow),
      fun reason line hf hs he hv => row_refused .start h hf (serve_start_invalid noPins hs he hv),
      fun hf he h0 h1 h32 h2 h15 => row_refused .scanSet h hf (serve_scanSetMatrix_busy noPins he h0 ⟨h1, h32⟩ ⟨h2, h15⟩),
      fun i hf h0 h1 h2 h3 hb => row_refused .scanSet h hf (serve_scanSetContact_busy noPins h0 h1 h2 h3 hb),
      fun i hf hi hr hplay => row_refused .effectWrite h hf (serve_effectWrite_inUse noPins hi hr hplay),
      fun j hf hj huse => row_refused .segmentWrite h hf (serve_segmentWrite_inUse noPins hj huse)⟩

end Sys2Proof.Machine
end

section
/-! BLOCK RESET: what each named block is left as, and what the five of them come to together. -/

namespace Sys2Proof.Machine

/-- A contact once SCANNER, QUEUE or both have been reset (R127, R129, R134). -/
def Contact.afterBlockReset (scanner queue : Bool) (c : Contact) : Contact :=
  { c with
    filtered := if scanner then .unknown else c.filtered
    agree := if scanner then 0 else c.agree
    lastRaw := if scanner then false else c.lastRaw
    held := if scanner || queue then false else c.held
    queued := if queue then 0 else c.queued }

/-- A channel once CHANNELS, EFFECTS or both have been reset (R160, R161, R188). -/
def Channel.afterBlockReset (channels effects : Bool) (c : Channel) : Channel :=
  if channels then { c with motion := .steady, level := 0 }
  else if effects = true ∧ c.motion.code = 2 then { c with motion := .steady }
  else c

/-- With neither of its blocks named, a contact stays as it is. -/
@[simp] theorem contact_afterBlockReset_none (c : Contact) : c.afterBlockReset false false = c := rfl

/-- QUEUE after SCANNER leaves a contact as both at once. -/
theorem contact_afterBlockReset_both (scanner queue : Bool) (c : Contact) :
    (c.afterBlockReset scanner false).afterBlockReset false queue = c.afterBlockReset scanner queue := by
  cases scanner <;> cases queue <;> rfl

@[simp] theorem channel_afterBlockReset_none (c : Channel) : c.afterBlockReset false false = c := by
  simp [Channel.afterBlockReset]

/-- EFFECTS after CHANNELS finds no channel playing (R188). -/
theorem channel_afterBlockReset_both (channels effects : Bool) (c : Channel) :
    (c.afterBlockReset channels false).afterBlockReset false effects = c.afterBlockReset channels effects := by
  cases channels with
  | false => rw [channel_afterBlockReset_none]
  | true => simp [Channel.afterBlockReset, Motion.code]

/-- A channel is PLAYING exactly when its mode code is 2 (10.4). -/
theorem stopPlaying_eq (c : Channel) : c.stopPlaying = c.afterBlockReset false true := by
  unfold Channel.stopPlaying Channel.afterBlockReset
  cases h : c.motion <;> simp [Motion.code, Channel.stopped, Channel.steadyAt]

@[simp] theorem ofFn_get_self {α : Type} {n : Nat} (v : Vector α n) : (Vector.ofFn fun i => v.get i) = v :=
  table_ext fun i => ofFn_get _ i

/-! ## One block at a time -/

theorem disableScanner_if (scanner : Bool) (s : State) :
    (if scanner then disableScanner true s else s) =
      { s with
        scanner := if scanner then s.scanner.disable else s.scanner
        contacts := Vector.ofFn fun i => (s.contacts.get i).afterBlockReset scanner false } := by
  cases scanner with
  | false => simp
  | true => simp [disableScanner, disableContacts, State.withScanner, State.withContacts, Contact.afterBlockReset]

theorem resetQueueBlock_if (queue : Bool) (s : State) :
    (if queue then resetQueueBlock s else s) =
      { s with
        queue := if queue then s.queue.blockReset else s.queue
        contacts := Vector.ofFn fun i => (s.contacts.get i).afterBlockReset false queue } := by
  cases queue with
  | false => simp
  | true => rfl

theorem resetChannels_if (channels : Bool) (s : State) :
    (if channels then s.withEngine s.engine.resetChannels else s) =
      { s with engine := { s.engine with
        channels := Vector.ofFn fun ch => (s.engine.channels.get ch).afterBlockReset channels false } } := by
  cases channels with
  | false => simp
  | true => rfl

theorem resetMapBlock_if (slotMap : Bool) (s : State) :
    (if slotMap then resetMapBlock s else s) = { s with map := if slotMap then .reset else s.map } := by
  cases slotMap <;> rfl

theorem resetEffects_if (effects : Bool) (s : State) :
    (if effects then s.withEngine s.engine.resetEffects else s) =
      { s with engine :=
        { effects := if effects then Vector.replicate 32 .reset else s.engine.effects
          segments := if effects then Vector.replicate 128 .reset else s.engine.segments
          channels := Vector.ofFn fun ch => (s.engine.channels.get ch).afterBlockReset false effects } } := by
  cases effects with
  | false => simp
  | true => simp [State.withEngine, Engine.resetEffects, Engine.reset, stopPlaying_eq]

/-! ## The five blocks together -/

/-- What the reset of a set of blocks leaves (R57, R86, R103, R127, R129, R134, R160, R161, R188). -/
theorem blockReset_eq (b : BlockSet) (s : State) :
    blockReset b s =
      { s with
        scanner := if b.scanner then s.scanner.disable else s.scanner
        contacts := Vector.ofFn fun i => (s.contacts.get i).afterBlockReset b.scanner b.queue
        queue := if b.queue then s.queue.blockReset else s.queue
        map := if b.slotMap then .reset else s.map
        engine :=
          { effects := if b.effects then Vector.replicate 32 .reset else s.engine.effects
            segments := if b.effects then Vector.replicate 128 .reset else s.engine.segments
            channels := Vector.ofFn fun ch => (s.engine.channels.get ch).afterBlockReset b.channels b.effects } } := by
  unfold blockReset
  dsimp only
  rw [resetEffects_if]
  simp only [disableScanner_if, resetQueueBlock_if, resetChannels_if, resetMapBlock_if, ofFn_get,
    contact_afterBlockReset_both, channel_afterBlockReset_both]

/-! ## The request -/

/-- No block named, or a bit beyond the five, is no set (R187). -/
theorem blockSetOf_none {a0 : Byte} (h : a0 = 0 ∨ 32 ≤ a0.toNat) : blockSetOf a0 = none := by
  have hbits : bits a0 5 3 = a0.toNat / 32 := by unfold bits; omega
  refine if_pos (h.imp_right fun h32 => ?_)
  omega

theorem blockSetOf_some {a0 : Byte} (h1 : 1 ≤ a0.toNat) (h32 : a0.toNat < 32) :
    blockSetOf a0 = some
      { scanner := a0.getLsbD 0, queue := a0.getLsbD 1, channels := a0.getLsbD 2, slotMap := a0.getLsbD 3,
        effects := a0.getLsbD 4 } := by
  have hbits : bits a0 5 3 = 0 := by unfold bits; omega
  refine if_neg ?_
  rintro (h0 | hhigh)
  · subst h0
    exact absurd h1 (by decide)
  · exact hhigh hbits

/-- Settles O38: the set that the argument names, and what the reset of its blocks leaves. -/
theorem blockResetResetsTheNamedBlocks : Obligations.BlockResetResetsTheNamedBlocks := by
  refine fun tag token a s count index h hf => ⟨fun hbad => ?_, fun h1 h32 => ?_⟩
  · refine row_refused .blockReset h hf ?_
    simp only [serve, reqBlockReset, blockSetOf_none hbad, withValue, refuse]
  · intro scanner queue channels slotMap effects
    have hv : serve .blockReset noPins a s = .taken .ok { noData with d0 := a.a0 }
        (blockReset { scanner, queue, channels, slotMap, effects } s) := by
      simp only [serve, reqBlockReset, blockSetOf_some h1 h32, withValue]
      rfl
    refine (row_taken .blockReset h hf hv).trans ?_
    rw [blockReset_eq]
    rfl

end Sys2Proof.Machine
end

section
/-! The active map: what a frame event, a slot, a request and a reset make of it, and so every command. -/

namespace Sys2Proof.Machine

/-! ## The frame event's map (R53) -/

/-- The slot map after a frame event: a pending commit is carried out (R53). -/
def SlotMap.afterFrameEvent (m : SlotMap) : SlotMap := if m.commitPending then m.commit else m

theorem mapFrameEvent_map (s : State) : (mapFrameEvent s).map = s.map.afterFrameEvent := by
  unfold SlotMap.afterFrameEvent
  split
  · rename_i h
    rw [mapFrameEvent_of_pending h, (SameControl.enqueueOnly _ _).map]
    rfl
  · rename_i h
    rw [mapFrameEvent_of_not (by simpa using h)]

/-- Whichever part of a frame event comes first, the map is that of a carried out commit (R20, R67). -/
theorem frameEvent_map (s : State) : (frameEvent s).map = s.map.afterFrameEvent := by
  unfold frameEvent
  split
  · split
    · rw [(SameControl.queueFrameEvent _).map, mapFrameEvent_map, (SameControl.tookChoice s).map]
    · rw [mapFrameEvent_map, (SameControl.queueFrameEvent _).map, (SameControl.tookChoice s).map]
  · rw [(SameControl.queueFrameEvent _).map, mapFrameEvent_map]

/-- The return from FALLBACK clears the last values, and gives the frame event (R25, R48). -/
theorem returnFromFallback_map (s : State) :
    (returnFromFallback s).map = { s.map with lastValues := noLastValues }.afterFrameEvent := by
  unfold returnFromFallback
  split
  · split
    · rw [frameEvent_map, (SameControl.enqueueOnly _ _).map]
      rfl
    · rw [(SameControl.enqueueOnly _ _).map, frameEvent_map]
      rfl
  · rw [frameEvent_map, (SameControl.enqueueOnly _ _).map]
    rfl

/-- A frame event leaves the active map, or makes it the staging map by a pending commit. -/
theorem afterFrameEvent_active (m : SlotMap) :
    m.afterFrameEvent.active = m.active ∨ m.commitPending = true ∧ m.afterFrameEvent.active = m.staging := by
  unfold SlotMap.afterFrameEvent
  split
  · rename_i h
    exact .inr ⟨h, rfl⟩
  · exact .inl rfl

theorem ownEpochFrame_active (s : State) :
    (ownEpochFrame s).map.active = s.map.active ∨
      s.map.commitPending = true ∧ (ownEpochFrame s).map.active = s.map.staging := by
  unfold ownEpochFrame
  split
  · exact .inl rfl
  · rw [frameEvent_map]
    exact afterFrameEvent_active s.map
  · rw [frameEvent_map]
    exact afterFrameEvent_active s.map
  · rw [returnFromFallback_map]
    exact afterFrameEvent_active { s.map with lastValues := noLastValues }

/-- A NORMAL header commits only where its epoch is the node's own (R24, R25, R53). -/
theorem normalHeader_active (epoch : Byte) (s : State) :
    (normalHeader epoch s).map.active = s.map.active ∨
      (normalHeader epoch s).map.active = s.map.staging ∧ s.map.commitPending = true ∧ s.node.state ≠ .unaddressed ∧
        s.node.epoch = some epoch := by
  unfold normalHeader
  split
  · exact .inl rfl
  · rename_i hs
    split
    · rename_i he
      exact (ownEpochFrame_active s).imp_right fun ⟨hp, h⟩ => ⟨h, hp, hs, he⟩
    · rw [becomeUnaddressed_eq]
      exact .inl rfl

theorem enumerate_map (hop epoch : Byte) (s : State) : (enumerate hop epoch s).1.map = s.map := by
  unfold enumerate
  split
  · rfl
  · split
    · rw [becomeReady_eq]
      rfl
    · rw [becomeUnaddressed_eq]
      rfl

/-! ## Parts of the line stream -/

/-- A delivered header is deliverable and of a known kind (R2). -/
theorem deliverable_of_judgeHeader {h : HeaderBytes} {k : FrameKind} (hj : judgeHeader h = .delivered k) :
    deliverable h ∧ FrameKind.ofCode h.kind = some k := by
  unfold judgeHeader at hj
  split at hj
  · cases hj
  · rename_i hc
    split at hj
    · cases hj
    · split at hj
      · rename_i hk
        cases hj
        exact ⟨⟨not_not.mp hc, by omega⟩, hk⟩
      · cases hj

theorem frameKind_normal {c : Byte} (h : FrameKind.ofCode c = some .normal) : c = 0x01 := by
  unfold FrameKind.ofCode at h
  split at h
  · assumption
  · split at h <;> cases h

/-- What a header makes of the active map: nothing, or the commit of an own-epoch NORMAL frame (R53). -/
theorem headerArrives_active (h : HeaderBytes) (s : State) :
    (headerArrives h s).map.active = s.map.active ∨
      (headerArrives h s).map.active = s.map.staging ∧ s.map.commitPending = true ∧ s.node.state ≠ .unaddressed ∧
        s.port.frame = .header ∧ deliverable h ∧ h.kind = 0x01 ∧ s.node.epoch = some h.epoch := by
  unfold headerArrives
  split
  · rename_i hf
    split
    · exact .inl rfl
    · exact .inl rfl
    · rename_i k hj
      obtain ⟨hd, hk⟩ := deliverable_of_judgeHeader hj
      cases k with
      | normal =>
        exact (normalHeader_active h.epoch _).imp_right fun ⟨hmap, hp, hs, he⟩ =>
          ⟨hmap, hp, hs, hf, hd, frameKind_normal hk, he⟩
      | enumerate => exact .inl (congrArg SlotMap.active (enumerate_map h.hop h.epoch _))
  · exact .inl rfl
  · exact .inl rfl

theorem closeFrame_map (s : State) : (closeFrame s).map = s.map := by
  unfold closeFrame
  split
  · rfl
  · rfl
  · split <;> rfl
  · rfl

/-- A slot's handling leaves the map that the judgement of the slot leaves, or the one before it. -/
theorem slotArrives_map (b : SlotBytes) (judge : FrameKind → Nat → State → SlotResult) (s : State) :
    (slotArrives b judge s).map = s.map ∨ ∃ kind index, (slotArrives b judge s).map = (judge kind index s).1.map := by
  unfold slotArrives
  split
  · split
    · exact .inr ⟨_, _, rfl⟩
    · exact .inl rfl
  · split <;> exact .inl rfl
  · exact .inl rfl
  · exact .inl rfl

/-! ## Requests -/

/-- The active map of `t` is that of `s` or, for the cause given, all PASS. -/
abbrev ActiveKeptOrReset (cause : Prop) (s t : State) : Prop :=
  t.map.active = s.map.active ∨ cause ∧ t.map.active = Vector.replicate 48 .pass

theorem startNode_active (s : State) : (startNode s).map.active = s.map.active := by
  rw [startNode_eq]

theorem stopNode_map (s : State) : (stopNode s).map = s.map := by
  unfold stopNode
  rw [leaveLoop_eq]
  rfl

/-- BLOCK RESET leaves the active map, or makes it all PASS where it names SLOT_MAP (R57, R187). -/
theorem reqBlockReset_active (a : Args) (s : State) :
    (reqBlockReset a s).Takes fun _ t => ActiveKeptOrReset (a.a0.getLsbD 3 = true) s t := by
  refine withValue_takes fun b hb => ?_
  have hmap : b.slotMap = a.a0.getLsbD 3 := by
    unfold blockSetOf at hb
    split at hb
    · cases hb
    · cases hb
      rfl
  change ActiveKeptOrReset _ s (blockReset b s)
  rw [blockReset_eq, ActiveKeptOrReset, ← hmap]
  cases b.slotMap with
  | false => exact .inl rfl
  | true => exact .inr ⟨rfl, rfl⟩

theorem Verdict.Takes.mono {P Q : Status → State → Prop} (h : ∀ st t, P st t → Q st t) {x : Verdict} (hx : x.Takes P) :
    x.Takes Q := by
  cases x with
  | refused _ _ => trivial
  | taken st _ t => exact h st t hx

/-- No request but a BLOCK RESET touches the active map: MAP WRITE and MAP COMMIT move the staging map and the flag (R40, R49, R51). -/
theorem serve_keepsActive {r : Request} (hr : r ≠ .blockReset) (v : PinView) (a : Args) (s : State) :
    (serve r v a s).Takes fun _ t => t.map.active = s.map.active := by
  cases r with
  | blockReset => exact absurd rfl hr
  | start =>
    refine require_takes fun _ => ?_
    split
    · trivial
    · exact startNode_active s
  | stop => exact require_takes fun _ => congrArg SlotMap.active (stopNode_map s)
  | mapWrite => exact withIndex_takes fun _ _ => withValue_takes fun _ _ => require_takes fun _ => rfl
  | mapCommit =>
    refine require_takes fun _ => ?_
    split
    · trivial
    · rfl
  | info => exact ite_takes rfl (ite_takes rfl trivial)
  | status => exact ite_takes rfl (ite_takes rfl (ite_takes rfl trivial))
  | counter =>
    refine withIndex_takes fun n _ => withValue_takes fun clear _ => ?_
    exact congrArg SlotMap.active (SameControl.ite (c := clear) (.clearCounter n s) (.refl s)).map
  | nodeReset | loopGet | resync | flush | contactsRead => rfl
  | loopSet => exact require_takes fun _ => require_takes fun _ => rfl
  | mapRead => exact withIndex_takes fun _ _ => withValue_takes fun _ _ => ite_takes rfl rfl
  | lineWrite => exact require_takes fun _ => withIndex_takes fun _ _ => withValue_takes fun _ _ => rfl
  | scanSet =>
    refine ite_takes (require_takes fun _ => require_takes fun _ => rfl) (ite_takes ?_ trivial)
    exact withIndex_takes fun _ _ => withValue_takes fun _ _ => withValue_takes fun _ _ => require_takes fun _ => rfl
  | scanGet => exact ite_takes rfl (ite_takes (withIndex_takes fun _ _ => rfl) trivial)
  | lineRead | keysRead | effectRead | segmentRead => exact withIndex_takes fun _ _ => rfl
  | effectWrite => exact withIndex_takes fun _ _ => withValue_takes fun _ _ => require_takes fun _ => rfl
  | segmentWrite => exact withIndex_takes fun _ _ => require_takes fun _ => rfl
  | channelSet | channelGet => exact withIndex_takes fun _ _ => withValue_takes fun _ _ => rfl
  | channelDrive =>
    exact withIndex_takes fun _ _ => withValue_takes fun _ _ => withValue_takes fun _ _ => withValue_takes fun _ _ => rfl
  | unknown _ => trivial

/-- A request leaves the active map, or is a BLOCK RESET naming SLOT_MAP and makes it all PASS (R40, R57). -/
theorem serve_active (r : Request) (v : PinView) (a : Args) (s : State) :
    (serve r v a s).Takes fun _ t => ActiveKeptOrReset (r = .blockReset ∧ a.a0.getLsbD 3 = true) s t := by
  by_cases hr : r = .blockReset
  · subst hr
    exact (reqBlockReset_active a s).mono fun _ _ h => h.imp_right fun ⟨hbit, hmap⟩ => ⟨⟨rfl, hbit⟩, hmap⟩
  · exact (serve_keepsActive hr v a s).mono fun _ _ h => .inl h

/-! ## Slots -/

theorem remember_map (token code : Byte) (a : Args) (st : Status) (d : ReplyData) (s : State) :
    (remember token code a st d s).map = s.map := by
  unfold remember
  split <;> rfl

theorem addressed_active (position token : Byte) (r : Request) (v : PinView) (a : Args) (s : State) :
    ActiveKeptOrReset (r = .blockReset ∧ a.a0.getLsbD 3 = true) s (addressed position token r v a s).1 := by
  unfold addressed
  split
  · exact .inl rfl
  · split
    · exact .inl rfl
    · rename_i st d t hv
      have ht := serve_active r v a s
      rw [hv] at ht
      rw [ActiveKeptOrReset, remember_map]
      exact ht

/-- A broadcast is START, STOP or NODE RESET, none of which touches the map's entries (R176). -/
theorem broadcast_active (r : Request) (s : State) : (broadcast r s).map.active = s.map.active := by
  unfold broadcast
  split
  · unfold broadcastStart
    split
    · split
      · rfl
      · exact startNode_active s
    all_goals rfl
  · unfold broadcastStop
    split
    · rw [stopNode_map]
    all_goals rfl
  · rfl
  · rfl

theorem mgmtSlot_active (tag token : Byte) (r : Request) (v : PinView) (a : Args) (s : State) :
    ActiveKeptOrReset (r = .blockReset ∧ a.a0.getLsbD 3 = true) s (mgmtSlot tag token r v a s).1 := by
  unfold mgmtSlot
  split
  · split
    iterate 3 exact .inl (broadcast_active r s)
    exact .inl rfl
  · split
    · split
      iterate 2 exact addressed_active tag token r v a s
      all_goals exact .inl rfl
    · exact .inl rfl

theorem applyTake_map (t : TakeEntry) (v : TakeValue) (s : State) : (applyTake t v s).map = s.map := by
  unfold applyTake
  split <;> rfl

/-- A DATA slot moves last values alone (R43). -/
theorem dataSlot_active (index : Nat) (p : Payload) (s : State) : (dataSlot index p s).map.active = s.map.active := by
  unfold dataSlot
  split
  · split
    · rename_i i _ _ t _
      by_cases hsame : t.changeOnly = true ∧ s.map.lastValues.get i = some (t.extract p)
      · rw [take_unchanged hsame]
      · rw [take_changed hsame, applyTake_map]
        rfl
    all_goals rfl
  · rfl

theorem dispatchSlot_active (k : SlotKind) (index : Nat) (b : SlotBytes) (v : PinView) (s : State) :
    ActiveKeptOrReset (k = .mgmt ∧ Request.ofCode b.payload.p1 = .blockReset ∧ b.payload.p2.getLsbD 3 = true) s
      (dispatchSlot k index b v s).1 := by
  cases k with
  | void => exact .inl rfl
  | mgmtReply => exact .inl rfl
  | data =>
    simp only [dispatchSlot]
    split
    · exact .inl (dataSlot_active index b.payload s)
    · exact .inl rfl
  | container =>
    simp only [dispatchSlot]
    split
    · exact .inl (congrArg SlotMap.active (SameControl.offer b.tag s).map)
    · exact .inl rfl
  | ackList =>
    simp only [dispatchSlot]
    split
    · exact .inl (congrArg SlotMap.active (SameControl.ackList b.payload s).map)
    · exact .inl rfl
  | mgmt => exact (mgmtSlot_active _ _ _ v _ s).imp_right fun ⟨hcause, hmap⟩ => ⟨⟨rfl, hcause⟩, hmap⟩

/-- A code that names BLOCK RESET is its code (R168). -/
theorem code_of_ofCode {c : Byte} {r : Request} (h : Request.ofCode c = r) : c = r.code := by
  rw [← h, request_code_ofCode]

/-- The judgement of a slot leaves the active map, or the slot is a good BLOCK RESET naming SLOT_MAP (R40, R57). -/
theorem judgeSlot_active (b : SlotBytes) (v : PinView) (kind : FrameKind) (index : Nat) (s : State) :
    ActiveKeptOrReset (blockResetOfMap (.slotArrival b v) = true) s (judgeSlot b v kind index s).1 := by
  unfold judgeSlot
  split
  · exact .inl rfl
  · rename_i hg
    split
    · exact .inl rfl
    · rename_i k hk
      split
      · refine (dispatchSlot_active k index b v s).imp_right fun ⟨⟨hmgmt, hcode, hbit⟩, hmap⟩ => ⟨?_, hmap⟩
        subst hmgmt
        have hkind : b.kind = 0x04 := slotKind_code_of_ofCode hk
        have hp1 : b.payload.p1 = 0x05 := code_of_ofCode hcode
        simp [blockResetOfMap, goodSlot, not_not.mp hg, hkind, hp1, hbit]
      · exact .inl rfl

/-! ## Commands -/

/-- A NODE RESET that is due makes the active map all PASS as it is settled (R59, R184). -/
theorem settleReset_active (s : State) :
    ActiveKeptOrReset (s.node.resetDue = true) s (settleReset s) := by
  unfold settleReset
  split
  · rename_i h
    exact .inr ⟨h, rfl⟩
  · exact .inl rfl

/-- What comes after the settling may leave the active map or reset it for a cause of its own. -/
theorem ActiveKeptOrReset.trans {c c' : Prop} {s t u : State} (h : ActiveKeptOrReset c s t) (h' : ActiveKeptOrReset c' t u) :
    ActiveKeptOrReset (c ∨ c') s u := by
  rcases h' with h' | ⟨hc', h'⟩
  · rcases h with h | ⟨hc, h⟩
    · exact .inl (h'.trans h)
    · exact .inr ⟨.inl hc, h'.trans h⟩
  · exact .inr ⟨.inr hc', h'⟩

/-- A slot's arrival leaves the active map, but for a due reset and a BLOCK RESET naming SLOT_MAP (R40, R57, R184). -/
theorem slotArrives_active (b : SlotBytes) (v : PinView) (s : State) :
    ActiveKeptOrReset (s.node.resetDue = true ∨ blockResetOfMap (.slotArrival b v) = true) s
      (slotArrives b (judgeSlot b v) (settleReset s)) := by
  refine (settleReset_active s).trans ?_
  rcases slotArrives_map b (judgeSlot b v) (settleReset s) with h | ⟨kind, index, h⟩
  · exact .inl (congrArg SlotMap.active h)
  · rw [ActiveKeptOrReset, h]
    exact judgeSlot_active b v kind index (settleReset s)

/-- A command that acts in operation alone leaves out of it what it would leave there. -/
theorem ActiveKeptOrReset.whenOperating {cause : Prop} {f : State → State} {s : State} (h : ActiveKeptOrReset cause s (f s)) :
    ActiveKeptOrReset (s.phase = .operating ∧ cause) s (whenOperating f s) := by
  by_cases hs : s.phase = .operating
  · rw [whenOperating_of hs]
    exact h.imp_right fun ⟨hc, hmap⟩ => ⟨⟨hs, hc⟩, hmap⟩
  · rw [whenOperating_of_not hs]
    exact .inl rfl

/-- What a header's arrival makes of the active map, a due NODE RESET apart: a reset node is UNADDRESSED and commits nothing. -/
theorem execHeaderArrival_active {h : HeaderBytes} {s t : State} (he : execHeaderArrival h s = .next t) :
    ActiveKeptOrReset (s.phase = .operating ∧ s.node.resetDue = true) s t ∨
      (t.map.active = s.map.staging ∧ s.map.commitPending = true ∧ s.node.state ≠ .unaddressed ∧
        s.port.frame = .header ∧ deliverable h ∧ h.kind = 0x01 ∧ s.node.epoch = some h.epoch) := by
  obtain rfl := Host.Outcome.next.inj he
  by_cases hs : s.phase = .operating
  · rw [whenOperating_of hs]
    by_cases hdue : s.node.resetDue = true
    · have hreset : settleReset s = nodeReset s := if_pos hdue
      rw [hreset]
      rcases headerArrives_active h (nodeReset s) with hmap | ⟨-, hp, -⟩
      · exact .inl (.inr ⟨⟨hs, hdue⟩, hmap⟩)
      · cases hp
    · rw [settleReset_of (by simpa using hdue)]
      exact (headerArrives_active h s).imp_left .inl
  · rw [whenOperating_of_not hs]
    exact .inl (.inl rfl)

theorem execCommitCarriedOut_active {s t : State} (he : execCommitCarriedOut s = .next t) :
    t.map.active = s.map.active ∨
      (t.map.active = s.map.staging ∧ s.map.commitPending = true ∧ s.node.state ≠ .unaddressed ∧ s.node.state ≠ .fallback ∧
        ∃ count, s.port.frame = .slots count 0 (some .normal)) := by
  obtain rfl := Host.Outcome.next.inj he
  unfold whenOperating
  split
  · dsimp only
    split
    · rename_i ha
      obtain ⟨hframe, hstate⟩ := (atFrameEvent_iff s).mp ha
      have hin : s.node.state ≠ .unaddressed ∧ s.node.state ≠ .fallback := by rcases hstate with h | h <;> simp [h]
      rw [mapFrameEvent_map]
      exact (afterFrameEvent_active s.map).imp_right fun ⟨hp, hmap⟩ => ⟨hmap, hp, hin.1, hin.2, hframe⟩
    · exact .inl rfl
  · exact .inl rfl

/-- Of the commands of the supply and the RESET pin, a release and the end of the start-up leave the active map (R16). -/
theorem exec_supply_active {c : Instr} (h : isSupplyCommand c = true) {s t : State} (he : exec c s = .next t) :
    ActiveKeptOrReset (c = .powerOnReset ∨ c = .powerLoss ∨ ∃ pulse, c = .pinReset pulse) s t := by
  cases c with
  | resetReleased =>
    obtain rfl := Host.Outcome.next.inj he
    split <;> exact .inl rfl
  | startUpComplete =>
    obtain rfl := Host.Outcome.next.inj he
    split <;> exact .inl rfl
  | powerOnReset | powerLoss | pinReset _ =>
    rcases exec_supply_blocks h he with hr | hk
    · exact .inr ⟨by simp, congrArg SlotMap.active hr.map⟩
    · exact .inl (congrArg SlotMap.active hk.map)
  | _ => cases h

theorem whenOperating_map {f : State → State} {s : State} (h : (f s).map = s.map) : (whenOperating f s).map = s.map := by
  unfold whenOperating
  split
  · exact h
  · rfl

/-- A command that is neither of the supply, nor a part of the line stream, nor the commit leaves the map. -/
theorem exec_other_map {c : Instr} (hc : isSupplyCommand c = false) (hs : settlesReset c = false)
    (hm : c ≠ .commitCarriedOut) {s t : State} (he : exec c s = .next t) : t.map = s.map := by
  cases c with
  | commitCarriedOut => exact absurd rfl hm
  | powerOnReset | powerLoss | pinReset | resetReleased | startUpComplete => cases hc
  | timeoutGoBack =>
    obtain rfl := Host.Outcome.next.inj he
    exact whenOperating_map (SameControl.ite (.withQueue s _) (.refl s)).map
  | markTimerExpiry =>
    obtain rfl := Host.Outcome.next.inj he
    exact whenOperating_map (by rw [markTimerExpires_eq])
  | silenceTimerExpiry =>
    obtain rfl := Host.Outcome.next.inj he
    exact whenOperating_map (by split <;> rfl)
  | outageTimerStep =>
    obtain rfl := Host.Outcome.next.inj he
    exact whenOperating_map (by split <;> rfl)
  | passStart =>
    obtain rfl := Host.Outcome.next.inj he
    exact whenOperating_map (SameControl.ite (.withScanner s _) (.refl s)).map
  | columnSettled v =>
    obtain rfl := Host.Outcome.next.inj he
    refine whenOperating_map ?_
    split
    · exact (SameControl.ite (.withScanner s _) (.refl s)).map
    · rfl
  | passCompletion v =>
    obtain rfl := Host.Outcome.next.inj he
    refine whenOperating_map ?_
    split
    · exact (SameControl.ite (.refl s) (.completePass v _ s)).map
    · rfl
  | indicatorTick =>
    obtain rfl := Host.Outcome.next.inj he
    exact whenOperating_map (SameControl.tickChannels s).map
  | glideEnd ch | segmentEnd ch =>
    obtain rfl := Host.Outcome.next.inj he
    exact whenOperating_map (SameControl.ite (.advanceChannel ch s) (.refl s)).map
  | pulseWidthPeriod =>
    obtain rfl := Host.Outcome.next.inj he
    exact whenOperating_map rfl
  | _ => cases hs

/-! ## A request's row is its slot -/

/-- The slot that carries a request brings a BLOCK RESET naming SLOT_MAP exactly when code and argument say so (10.4, 10.5). -/
theorem blockResetOfMap_requestSlot (tag token code : Byte) (a : Args) (v : PinView) :
    blockResetOfMap (.slotArrival (requestSlot tag token code a) v) = (code = 0x05 && a.a0.getLsbD 3) := by
  have hgood : decide (goodSlot (requestSlot tag token code a)) = true := decide_eq_true (requestSlot_good ..)
  simp only [blockResetOfMap, hgood]
  rfl

/-- A row that carries a request runs as its slot, and brings a BLOCK RESET naming SLOT_MAP where its slot does. -/
theorem exec_eq_slot_and_blockReset {c : Instr} {tag token : Byte} {r : Request} {v : PinView} {a : Args}
    (hr : Request.ofCode r.code = r) (hc : ∀ s, exec c s = .next (requestCommand tag token r v a s))
    (hb : r.code = 0x05 → a.a0.getLsbD 3 = true → blockResetOfMap c = true) :
    ∃ b v, (∀ s, exec c s = exec (.slotArrival b v) s) ∧
      (blockResetOfMap (.slotArrival b v) = true → blockResetOfMap c = true) := by
  refine ⟨_, v, fun s => (hc s).trans (requestCommand_eq_slot tag token hr v a s), fun h => ?_⟩
  rw [blockResetOfMap_requestSlot, Bool.and_eq_true, decide_eq_true_iff] at h
  exact hb h.1 h.2

/-- Every row for a request runs as the arrival of some slot, which brings a BLOCK RESET naming SLOT_MAP only where the row does. -/
theorem exec_request_eq_slot_and_blockReset {c : Instr} {r : Request} (h : c.request? = some r) :
    ∃ b v, (∀ s, exec c s = exec (.slotArrival b v) s) ∧
      (blockResetOfMap (.slotArrival b v) = true → blockResetOfMap c = true) := by
  cases c with
  | blockReset tag token a =>
    exact exec_eq_slot_and_blockReset (request_ofCode_known _ (by decide)) (fun _ => rfl) fun _ hbit => hbit
  | unknownRequest tag token code a =>
    refine exec_eq_slot_and_blockReset (ofCode_code_ofCode code) (fun _ => rfl) fun hcode hbit => ?_
    rw [request_code_ofCode] at hcode
    simp [blockResetOfMap, hcode, hbit]
  | info | status | counter | nodeReset | loopSet | loopGet | start | stop | mapWrite | mapRead | mapCommit
  | resync | flush | lineWrite | lineRead | scanSet | scanGet | keysRead | contactsRead | effectWrite | effectRead
  | segmentWrite | segmentRead | channelSet | channelGet | channelDrive =>
    exact exec_eq_slot_and_blockReset (request_ofCode_known _ (by decide)) (fun _ => rfl) fun hcode =>
      absurd hcode (by decide)
  | _ => cases h

/-- The commands that settle a due reset: the requests' rows, its own row, and the parts of the line stream (R184; entry 4). -/
theorem settlesReset_cases {c : Instr} (h : settlesReset c = true) :
    (∃ r, c.request? = some r) ∨ c = .nodeResetTakesPlace ∨ (∃ tail, c = .startMark tail ∨ c = .endMark tail) ∨
      (∃ x, c = .headerArrival x) ∨ ∃ b v, c = .slotArrival b v := by
  unfold settlesReset at h
  split at h
  · exact .inr (.inl rfl)
  · exact .inr (.inr (.inl ⟨_, .inl rfl⟩))
  · exact .inr (.inr (.inr (.inl ⟨_, rfl⟩)))
  · exact .inr (.inr (.inr (.inr ⟨_, _, rfl⟩)))
  · exact .inr (.inr (.inl ⟨_, .inr rfl⟩))
  · exact .inl (Option.isSome_iff_exists.mp h)

/-- A part of the line stream, or the row of a due reset, leaves the active map but for the reset and a slot's own effect. -/
theorem exec_settling_active {c : Instr} (hs : settlesReset c = true) (hh : ∀ h, c ≠ .headerArrival h) {s t : State}
    (he : exec c s = .next t) :
    ActiveKeptOrReset (s.phase = .operating ∧ (s.node.resetDue = true ∨ blockResetOfMap c = true)) s t := by
  have settled {f : State → State} (hf : (f (settleReset s)).map = (settleReset s).map) :
      ActiveKeptOrReset (s.node.resetDue = true ∨ blockResetOfMap c = true) s (f (settleReset s)) :=
    (settleReset_active s).trans (.inl (congrArg SlotMap.active hf))
  rcases settlesReset_cases hs with ⟨r, hr⟩ | rfl | ⟨tail, rfl | rfl⟩ | ⟨x, rfl⟩ | ⟨b, v, rfl⟩
  · obtain ⟨b, v, hslot, hblock⟩ := exec_request_eq_slot_and_blockReset hr
    obtain rfl := Host.Outcome.next.inj ((hslot s).symm.trans he)
    exact (slotArrives_active b v s).whenOperating.imp_right fun ⟨⟨hop, hcause⟩, hmap⟩ =>
      ⟨⟨hop, hcause.imp_right hblock⟩, hmap⟩
  · obtain rfl := Host.Outcome.next.inj he
    exact (settled (f := id) rfl).whenOperating
  · obtain rfl := Host.Outcome.next.inj he
    exact (settled (f := startMarkArrives tail) (closeFrame_map _)).whenOperating
  · obtain rfl := Host.Outcome.next.inj he
    exact (settled (f := endMarkArrives tail) (closeFrame_map _)).whenOperating
  · exact absurd rfl (hh x)
  · obtain rfl := Host.Outcome.next.inj he
    exact (slotArrives_active b v s).whenOperating

/-- Settles O54: a command is of the supply, a header, another part of the line stream, the commit's own row, or leaves the map. -/
theorem activeMapChangesAsAWhole : Obligations.ActiveMapChangesAsAWhole := by
  intro c s t he
  by_cases hsupply : isSupplyCommand c = true
  · rcases exec_supply_active hsupply he with h | ⟨hcause, hmap⟩
    · exact .inl h
    · exact .inr (.inr ⟨hmap, hcause.imp_right (.imp_right .inl)⟩)
  by_cases hcommit : c = .commitCarriedOut
  · subst hcommit
    rcases execCommitCarriedOut_active he with h | ⟨hmap, hp, haddressed, houtside, hframe⟩
    · exact .inl h
    · exact .inr (.inl ⟨hmap, hp, haddressed, .inl ⟨rfl, houtside, hframe⟩⟩)
  by_cases hsettles : settlesReset c = true
  · by_cases hheader : ∃ h, c = .headerArrival h
    · obtain ⟨h, rfl⟩ := hheader
      rcases execHeaderArrival_active he with (hkept | ⟨hdue, hmap⟩) | ⟨hmap, hp, hn, hf, hd, hk, hepoch⟩
      · exact .inl hkept
      · exact .inr (.inr ⟨hmap, .inr (.inr (.inr (.inl ⟨hdue.1, hdue.2, hsettles⟩)))⟩)
      · exact .inr (.inl ⟨hmap, hp, hn, .inr ⟨h, rfl, hf, hd, hk, hepoch⟩⟩)
    · rcases exec_settling_active hsettles (fun h hc => hheader ⟨h, hc⟩) he with hkept | ⟨⟨hop, hcause⟩, hmap⟩
      · exact .inl hkept
      · refine .inr (.inr ⟨hmap, .inr (.inr (.inr ?_))⟩)
        exact hcause.imp (fun hdue => ⟨hop, hdue, hsettles⟩) (fun hblock => ⟨hop, hblock⟩)
  · exact .inl (congrArg SlotMap.active
      (exec_other_map (by simpa using hsupply) (by simpa using hsettles) hcommit he))

end Sys2Proof.Machine
end

section
/-! What the report queue's invariant says of the places, the numbers and the deliveries, and what each operation of the queue makes
of the three. -/

namespace Sys2Proof.Machine

/-! ## The invariant in three parts -/

/-- Which reports are of the OVERRUN kind, oldest first (R60). -/
def Queue.overruns (q : Queue) : List Bool := q.reports.map fun r => r.body.isOverrun

/-- The places: at most 31 ordinary reports and one OVERRUN, and losses held only beside an OVERRUN (R60, R64 to R66). -/
structure Queue.PlacesFit (q : Queue) : Prop where
  ordinary : q.overruns.count false ≤ 31
  overrun : q.overruns.count true ≤ 1
  losses : q.lost ≠ 0 → true ∈ q.overruns

/-- The numbers: consecutive, oldest first, up to the next one (R63). -/
abbrev Queue.Numbered (q : Queue) : Prop := q.reports.map Report.seq = numbersBefore q.nextSeq q.reports.length

/-- The SENT reports are the oldest, and so are the ever-sent ones, which the SENT are among (R70, R79). -/
structure OldestSent (rs : List Report) : Prop where
  sent : rs.Pairwise fun older newer => newer.status = .sent → older.status = .sent
  everSent : rs.Pairwise fun older newer => newer.everSent = true → older.everSent = true
  sentEver : ∀ r ∈ rs, r.status = .sent → r.everSent = true

/-- The deliveries: at most W reports are SENT, in RUNNING alone and never while STALLED, and the ack timer runs below Rt exactly while
one is (R70, R76, R78). -/
structure Queue.DeliveriesFit (st : NodeState) (q : Queue) : Prop where
  oldest : OldestSent q.reports
  running : q.sentCount ≠ 0 → st = .running ∧ q.stalled = false
  window : q.sentCount ≤ q.window.toNat
  timer : q.ackTimer.isSome = true ↔ q.sentCount ≠ 0
  timerBelow : ∀ k ∈ q.ackTimer, k < q.retryInterval.toNat

/-- The whole invariant of a queue whose node is in this state. -/
structure Queue.Fits (st : NodeState) (q : Queue) : Prop where
  places : q.PlacesFit
  numbered : q.Numbered
  deliveries : q.DeliveriesFit st
  offers : q.offerCount ≤ 8
  settings : queueSettingsFit q

theorem ordinaryCount_eq_countP (q : Queue) : q.ordinaryCount = q.reports.countP fun r => !r.body.isOverrun :=
  List.countP_eq_length_filter.symm

theorem sentCount_eq_countP (q : Queue) : q.sentCount = q.reports.countP fun r => r.status = .sent :=
  List.countP_eq_length_filter.symm

theorem ordinaryCount_eq_count (q : Queue) : q.ordinaryCount = q.overruns.count false := by
  rw [ordinaryCount_eq_countP, Queue.overruns, List.count_eq_countP, List.countP_map]
  exact List.countP_congr fun r _ => by simp

theorem overrunsLength_eq_count (q : Queue) : (q.reports.filter fun r => r.body.isOverrun).length = q.overruns.count true := by
  rw [← List.countP_eq_length_filter, Queue.overruns, List.count_eq_countP, List.countP_map]
  exact List.countP_congr fun r _ => by simp

theorem overrun?_isSome_iff (q : Queue) : q.overrun?.isSome = true ↔ true ∈ q.overruns := by
  simp [Queue.overrun?, Queue.overruns]

/-- The places hang on the reports' kinds and on whether losses are held. -/
theorem Queue.PlacesFit.congr {q q' : Queue} (h : q.PlacesFit) (hk : q'.overruns = q.overruns) (hl : q'.lost ≠ 0 → q.lost ≠ 0) :
    q'.PlacesFit := by
  obtain ⟨ordinary, overrun, losses⟩ := h
  rw [← hk] at ordinary overrun losses
  exact ⟨ordinary, overrun, losses ∘ hl⟩

theorem queueInv_iff (s : State) : QueueInv s ↔ s.queue.Fits s.node.state := by
  unfold QueueInv
  rw [ordinaryCount_eq_count, overrunsLength_eq_count, overrun?_isSome_iff]
  constructor
  · rintro ⟨ordinary, overrun, numbered, sent, everSent, sentEver, running, window, timer, timerBelow, offers, losses, settings⟩
    exact ⟨⟨ordinary, overrun, losses⟩, numbered, ⟨⟨sent, everSent, sentEver⟩, running, window, timer, timerBelow⟩, offers, settings⟩
  · rintro ⟨⟨ordinary, overrun, losses⟩, numbered, ⟨⟨sent, everSent, sentEver⟩, running, window, timer, timerBelow⟩, offers, settings⟩
    exact ⟨ordinary, overrun, numbered, sent, everSent, sentEver, running, window, timer, timerBelow, offers, losses, settings⟩

/-! ## Consecutive numbers (R63) -/

theorem natByte_succ (n : Nat) : natByte (n + 1) = natByte n + 1 := BitVec.ofNat_add n 1

/-- One more report takes the next number. -/
theorem numbersBefore_append (x : Byte) (n : Nat) : numbersBefore (x + 1) (n + 1) = numbersBefore x n ++ [x] := by
  induction n with
  | zero => simp [numbersBefore, natByte]
  | succ n ih =>
    have hhead : x + 1 - natByte (n + 1 + 1) = x - natByte (n + 1) := by
      rw [natByte_succ (n + 1)]
      bv_omega
    rw [numbersBefore, ih, hhead]
    rfl

/-- The newer of consecutively numbered reports are consecutively numbered. -/
theorem numbersBefore_newer {x : Byte} {older newer : List Byte} (h : older ++ newer = numbersBefore x (older.length + newer.length)) :
    newer = numbersBefore x newer.length := by
  induction older with
  | nil => simpa using h
  | cons y older ih =>
    rw [List.length_cons, Nat.add_right_comm, numbersBefore, List.cons_append] at h
    exact ih (List.cons.inj h).2

/-- Numbers counted up from `x` end just before `x` plus their count (R80). -/
theorem renumber_seq (x : Byte) (rs : List Report) :
    (renumber x rs).map Report.seq = numbersBefore (x + natByte rs.length) rs.length := by
  induction rs generalizing x with
  | nil => rfl
  | cons r rs ih =>
    have hnext : x + 1 + natByte rs.length = x + natByte (rs.length + 1) := by
      rw [natByte_succ]
      bv_omega
    have hhead : x + natByte (rs.length + 1) - natByte (rs.length + 1) = x := by bv_omega
    rw [renumber, List.map_cons, ih, hnext, List.length_cons, numbersBefore, hhead]
    rfl

/-! ## Deliveries -/

theorem sentCount_eq_zero {q : Queue} (h : ∀ r ∈ q.reports, r.status = .waiting) : q.sentCount = 0 := by
  rw [sentCount_eq_countP, List.countP_eq_zero]
  intro r hr
  simp [h r hr]

/-- With every report WAITING and the timer stopped, the deliveries fit whatever the node's state. -/
theorem deliveriesFit_of_waiting {q : Queue} (st : NodeState) (hw : ∀ r ∈ q.reports, r.status = .waiting)
    (he : q.reports.Pairwise fun older newer => newer.everSent = true → older.everSent = true) (ht : q.ackTimer = none) :
    q.DeliveriesFit st := by
  have hcount := sentCount_eq_zero hw
  refine ⟨⟨?_, he, ?_⟩, ?_, ?_, ?_, ?_⟩
  · exact List.Pairwise.imp_of_mem (fun _ hb _ hs => by simp [hw _ hb] at hs) he
  · intro r hr hs
    simp [hw r hr] at hs
  · exact fun h => absurd hcount h
  · omega
  · simp [ht, hcount]
  · simp [ht]

/-- In a queue whose node is not RUNNING no report is SENT and the timer stands (R70, R76). -/
theorem Queue.DeliveriesFit.idle {st : NodeState} {q : Queue} (h : q.DeliveriesFit st) (hst : st ≠ .running) :
    q.sentCount = 0 ∧ q.ackTimer = none := by
  have hcount : q.sentCount = 0 := by
    by_contra hne
    exact hst (h.running hne).1
  refine ⟨hcount, ?_⟩
  have := h.timer
  rw [hcount] at this
  simpa using this

theorem OldestSent.append_waiting {rs : List Report} (h : OldestSent rs) {r : Report} (hw : r.status = .waiting)
    (he : r.everSent = false) : OldestSent (rs ++ [r]) := by
  refine ⟨?_, ?_, ?_⟩
  · rw [List.pairwise_append]
    exact ⟨h.sent, by simp, by simp [hw]⟩
  · rw [List.pairwise_append]
    exact ⟨h.everSent, by simp, by simp [he]⟩
  · intro x hx hs
    rcases List.mem_append.mp hx with hx | hx
    · exact h.sentEver x hx hs
    · simp [List.mem_singleton.mp hx, hw] at hs

theorem OldestSent.map {rs : List Report} (h : OldestSent rs) {f : Report → Report} (hs : ∀ r, (f r).status = r.status)
    (he : ∀ r, (f r).everSent = r.everSent) : OldestSent (rs.map f) := by
  refine ⟨?_, ?_, ?_⟩
  · simpa only [List.pairwise_map, hs] using h.sent
  · simpa only [List.pairwise_map, he] using h.everSent
  · simpa only [List.forall_mem_map, hs, he] using h.sentEver

theorem OldestSent.newer {older newer : List Report} (h : OldestSent (older ++ newer)) : OldestSent newer :=
  ⟨(List.pairwise_append.mp h.sent).2.1, (List.pairwise_append.mp h.everSent).2.1,
    fun r hr => h.sentEver r (List.mem_append_right _ hr)⟩

/-! ## What enqueues keep (R62 to R65) -/

variable {st : NodeState} {q : Queue}

/-- A report appended keeps the numbers, the deliveries and the settings; whether it finds a place depends on its kind. -/
theorem Queue.Fits.append_of_places (h : q.Fits st) (b : ReportBody) {lost : Byte}
    (hp : ({ q.append b with lost := lost } : Queue).PlacesFit) : ({ q.append b with lost := lost } : Queue).Fits st := by
  have hcount : ({ q.append b with lost := lost } : Queue).sentCount = q.sentCount := by
    simp [sentCount_eq_countP, Queue.append]
  have hn : q.reports.map Report.seq = numbersBefore q.nextSeq q.reports.length := h.numbered
  have hnext := numbersBefore_append q.nextSeq q.reports.length
  obtain ⟨oldest, running, window, timer, timerBelow⟩ := h.deliveries
  rw [← hcount] at running window timer
  refine ⟨hp, ?_, ⟨oldest.append_waiting rfl rfl, running, window, timer, timerBelow⟩, h.offers, h.settings⟩
  simpa [Queue.Numbered, Queue.append, hn] using hnext.symm

@[simp] theorem append_overruns (q : Queue) (b : ReportBody) (lost : Byte) :
    ({ q.append b with lost := lost } : Queue).overruns = q.overruns ++ [b.isOverrun] := by
  simp [Queue.overruns, Queue.append]

/-- An ordinary report for which there is room is appended in its place (R62). -/
theorem Queue.Fits.append_ordinary (h : q.Fits st) {b : ReportBody} (hb : b.isOverrun = false) (hroom : q.hasRoom = true) :
    (q.append b).Fits st := by
  refine h.append_of_places (lost := q.lost) b ⟨?_, ?_, fun hl => ?_⟩
  · have hr : q.ordinaryCount < 31 := of_decide_eq_true hroom
    rw [ordinaryCount_eq_count] at hr
    simpa [hb] using hr
  · simpa [hb] using h.places.overrun
  · simp [h.places.losses hl]

/-- An OVERRUN report is appended where there is none, and takes the losses with it (R65, R66). -/
theorem Queue.Fits.append_overrun (h : q.Fits st) (hnone : true ∉ q.overruns) (lost : Byte) :
    ({ q.append (.overrun lost) with lost := 0 } : Queue).Fits st := by
  refine h.append_of_places (.overrun lost) ⟨?_, ?_, fun hl => absurd rfl hl⟩
  · simpa [ReportBody.isOverrun] using h.places.ordinary
  · simp [ReportBody.isOverrun, List.count_eq_zero_of_not_mem hnone]

@[simp] theorem growLost_seq (n : Byte) (r : Report) : (r.growLost n).seq = r.seq := by
  unfold Report.growLost
  split <;> rfl

@[simp] theorem growLost_status (n : Byte) (r : Report) : (r.growLost n).status = r.status := by
  unfold Report.growLost
  split <;> rfl

@[simp] theorem growLost_everSent (n : Byte) (r : Report) : (r.growLost n).everSent = r.everSent := by
  unfold Report.growLost
  split <;> rfl

@[simp] theorem growLost_isOverrun (n : Byte) (r : Report) : (r.growLost n).body.isOverrun = r.body.isOverrun := by
  unfold Report.growLost
  split
  · rename_i hb
    simp [hb, ReportBody.isOverrun]
  all_goals rfl

/-- A growing OVERRUN report keeps its place, number and delivery (R65). -/
theorem Queue.Fits.growLost (h : q.Fits st) (n : Byte) :
    ({ q with reports := q.reports.map (Report.growLost n), lost := 0 } : Queue).Fits st := by
  have hkinds : ({ q with reports := q.reports.map (Report.growLost n), lost := 0 } : Queue).overruns = q.overruns := by
    simp [Queue.overruns]
  have hcount : ({ q with reports := q.reports.map (Report.growLost n), lost := 0 } : Queue).sentCount = q.sentCount := by
    simp only [sentCount_eq_countP, List.countP_map, Function.comp_def, growLost_status]
  have hn : q.reports.map Report.seq = numbersBefore q.nextSeq q.reports.length := h.numbered
  obtain ⟨oldest, running, window, timer, timerBelow⟩ := h.deliveries
  rw [← hcount] at running window timer
  refine ⟨h.places.congr hkinds fun hl => absurd rfl hl, ?_,
    ⟨oldest.map (growLost_status n) (growLost_everSent n), running, window, timer, timerBelow⟩, h.offers, h.settings⟩
  simpa [Queue.Numbered, Function.comp_def] using hn

/-- The deliveries look neither at the losses nor at the cycle, the offers or the numbers. -/
theorem Queue.DeliveriesFit.congr {q' : Queue} (h : q.DeliveriesFit st) (hr : q'.reports = q.reports) (hs : q'.stalled = q.stalled)
    (hw : q'.window = q.window) (ht : q'.ackTimer = q.ackTimer) (hi : q'.retryInterval = q.retryInterval) : q'.DeliveriesFit st := by
  obtain ⟨oldest, running, window, timer, timerBelow⟩ := h
  have hcount : q'.sentCount = q.sentCount := by rw [Queue.sentCount, hr]; rfl
  exact ⟨hr ▸ oldest, by rwa [hcount, hs], by rwa [hcount, hw], by rwa [hcount, ht], by rwa [ht, hi]⟩

/-- The overrun handling after a discard: whatever losses are held, they end beside or in an OVERRUN report (R65). -/
theorem Queue.Fits.handleOverrun (h : q.Fits st) (lost : Byte) : ({ q with lost := lost } : Queue).handleOverrun.Fits st := by
  unfold Queue.handleOverrun
  split
  · rename_i hnone
    have hno : true ∉ q.overruns := by
      have hnone' : q.overrun? = none := hnone
      rw [← overrun?_isSome_iff, hnone']
      simp
    exact h.append_overrun hno lost
  · rename_i r hsome
    have hyes : true ∈ q.overruns := (overrun?_isSome_iff q).mp (congrArg Option.isSome hsome)
    split
    · exact h.growLost lost
    · exact ⟨⟨h.places.ordinary, h.places.overrun, fun _ => hyes⟩, h.numbered, h.deliveries.congr rfl rfl rfl rfl rfl, h.offers,
        h.settings⟩

/-- An enqueue of an ordinary report, appended or discarded, keeps the queue in order (R62, R64, R65). -/
theorem Queue.Fits.after (h : q.Fits st) {b : ReportBody} (hb : b.isOverrun = false) : (q.after b).Fits st := by
  unfold Queue.after
  split
  · rename_i hroom
    exact h.append_ordinary hb hroom
  · exact h.handleOverrun _

/-! ## What go-backs, timeouts and headers keep (R61, R71, R76 to R79) -/

/-- When every report goes back, the queue fits whatever the node's state; STALLED and the retry counts do not matter (R79). -/
theorem Queue.Fits.goBack_of (h : q.Fits st) (st' : NodeState) {rs : List Report} (stalled : Bool)
    (hk : rs.map (fun r => r.body.isOverrun) = q.overruns) (hn : rs.map Report.seq = q.reports.map Report.seq)
    (he : rs.map Report.everSent = q.reports.map Report.everSent) :
    ({ q with reports := rs.map Report.goBack, ackTimer := none, stalled := stalled } : Queue).Fits st' := by
  have hkinds : ({ q with reports := rs.map Report.goBack, ackTimer := none, stalled := stalled } : Queue).overruns = q.overruns := by
    simpa [Queue.overruns, Report.goBack, Function.comp_def] using hk
  have hlen : rs.length = q.reports.length := by simpa using congrArg List.length hn
  have hever : (q.reports.map Report.everSent).Pairwise fun older newer => newer = true → older = true :=
    List.pairwise_map.mpr h.deliveries.oldest.everSent
  have hnumbered : q.reports.map Report.seq = numbersBefore q.nextSeq q.reports.length := h.numbered
  refine ⟨h.places.congr hkinds id, ?_, deliveriesFit_of_waiting st' ?_ ?_ rfl, h.offers, h.settings⟩
  · rw [← hn, ← hlen] at hnumbered
    simpa [Queue.Numbered, Report.goBack, Function.comp_def] using hnumbered
  · simp [Report.goBack]
  · rw [← he, List.pairwise_map] at hever
    exact List.pairwise_map.mpr hever

theorem Queue.Fits.goBack (h : q.Fits st) (st' : NodeState) : q.goBack.Fits st' := h.goBack_of st' q.stalled rfl rfl rfl

theorem chargeOldest_keeps {α : Type} {f : Report → α} (hf : ∀ r n, f { r with retries := n } = f r) (rs : List Report) :
    (chargeOldest rs).map f = rs.map f := by
  cases rs with
  | nil => rfl
  | cons r rs => simp [chargeOldest, hf]

/-- The timeout charges the oldest report and is else a go-back (R77). -/
theorem Queue.Fits.timeout (h : q.Fits st) (st' : NodeState) : q.timeout.Fits st' :=
  h.goBack_of st' _ (chargeOldest_keeps (fun _ _ => rfl) _) (chargeOldest_keeps (fun _ _ => rfl) _)
    (chargeOldest_keeps (fun _ _ => rfl) _)

/-- The ack timer's increment below Rt (R76). -/
theorem Queue.Fits.timerCounts (h : q.Fits st) (hsent : 0 < q.sentCount) {k : Nat} (hk : k < q.retryInterval.toNat) :
    ({ q with ackTimer := some k } : Queue).Fits st := by
  obtain ⟨oldest, running, window, -, -⟩ := h.deliveries
  refine ⟨h.places.congr rfl id, h.numbered, ⟨oldest, running, window, ?_, ?_⟩, h.offers, h.settings⟩
  · exact ⟨fun _ => hsent.ne', fun _ => rfl⟩
  · rintro _ ⟨⟩
    exact hk

/-- A header's cycle and the offer count's return to 0 (R61, R71). -/
theorem Queue.Fits.header (h : q.Fits st) (cycle : Byte) : ({ q with currentCycle := cycle, offerCount := 0 } : Queue).Fits st :=
  ⟨h.places.congr rfl id, h.numbered, h.deliveries.congr rfl rfl rfl rfl rfl, Nat.zero_le _,
    h.settings⟩

/-- A node that is not RUNNING may change its state: no report of its is SENT (R70). -/
theorem Queue.Fits.enter (h : q.Fits st) (hst : st ≠ .running) (st' : NodeState) : q.Fits st' := by
  obtain ⟨hcount, -⟩ := h.deliveries.idle hst
  obtain ⟨oldest, -, window, timer, timerBelow⟩ := h.deliveries
  exact ⟨h.places, h.numbered, ⟨oldest, fun hne => absurd hcount hne, window, timer, timerBelow⟩, h.offers, h.settings⟩

/-! ## What a placement keeps (R68, R69) -/

theorem markOldestWaiting_keeps {α : Type} {f : Report → α}
    (hf : ∀ r st e, f { r with status := st, everSent := e } = f r) (rs : List Report) :
    (markOldestWaiting rs).map f = rs.map f := by
  induction rs with
  | nil => rfl
  | cons r rs ih =>
    unfold markOldestWaiting
    split
    · simp [hf]
    · simp [ih]

/-- A placement by the reports before and after the oldest WAITING one (R69). -/
theorem markOldestWaiting_mid {older newer : List Report} {r : Report} (hs : ∀ x ∈ older, x.status = .sent)
    (hw : r.status = .waiting) :
    markOldestWaiting (older ++ r :: newer) = older ++ { r with status := .sent, everSent := true } :: newer := by
  induction older with
  | nil => simp [markOldestWaiting, hw]
  | cons x older ih =>
    rw [List.cons_append, markOldestWaiting, hs x (by simp)]
    simp only [ih fun y hy => hs y (by simp [hy]), List.cons_append]

theorem OldestSent.mark {older newer : List Report} {r : Report} (h : OldestSent (older ++ r :: newer))
    (hs : ∀ x ∈ older, x.status = .sent) :
    OldestSent (older ++ { r with status := .sent, everSent := true } :: newer) := by
  obtain ⟨sent, everSent, sentEver⟩ := h
  have hold : ∀ x ∈ older, x.everSent = true := fun x hx => sentEver x (by simp [hx]) (hs x hx)
  simp only [List.pairwise_append, List.pairwise_cons] at sent everSent
  obtain ⟨sentOlder, ⟨-, sentNewer⟩, -⟩ := sent
  obtain ⟨everOlder, ⟨-, everNewer⟩, -⟩ := everSent
  refine ⟨?_, ?_, ?_⟩
  · simp only [List.pairwise_append, List.pairwise_cons]
    exact ⟨sentOlder, ⟨fun _ _ _ => trivial, sentNewer⟩, fun x hx _ _ _ => hs x hx⟩
  · simp only [List.pairwise_append, List.pairwise_cons]
    exact ⟨everOlder, ⟨fun _ _ _ => trivial, everNewer⟩, fun x hx _ _ _ => hold x hx⟩
  · intro x hx hsx
    simp only [List.mem_append, List.mem_cons] at hx
    rcases hx with hx | rfl | hx
    · exact hold x hx
    · rfl
    · exact sentEver x (by simp [hx]) hsx

/-- The conditions of an offer but for the tag (R68, R71). -/
theorem mayOffer_iff (s : State) : mayOffer s = true ↔
    s.node.state = .running ∧ s.queue.stalled = false ∧ s.queue.offerCount < s.queue.offerLimit.toNat ∧
      s.queue.sentCount < s.queue.window.toNat ∧ ∃ r ∈ s.queue.reports, r.status = .waiting := by
  simp only [mayOffer, Bool.and_eq_true, Bool.not_eq_true', decide_eq_true_eq, List.any_eq_true, and_assoc]

theorem placed_overruns (q : Queue) : q.placed.overruns = q.overruns :=
  markOldestWaiting_keeps (f := fun r => r.body.isOverrun) (fun _ _ _ => rfl) q.reports

/-- A placement sends the oldest WAITING report within the window and starts the timer over the first SENT one (R69). -/
theorem Queue.Fits.placed (h : q.Fits .running) {r : Report} (hr : q.oldestWaiting? = some r) (hstalled : q.stalled = false)
    (hoffers : q.offerCount < q.offerLimit.toNat) (hwindow : q.sentCount < q.window.toNat) : q.placed.Fits .running := by
  obtain ⟨older, newer, hreports, hsent, hw⟩ := oldestWaiting?_some hr
  have hmarked : q.placed.reports = older ++ { r with status := .sent, everSent := true } :: newer := by
    simp only [Queue.placed, hreports, markOldestWaiting_mid hsent hw]
  have hseq : q.placed.reports.map Report.seq = q.reports.map Report.seq := markOldestWaiting_keeps (fun _ _ _ => rfl) _
  have hcount : q.placed.sentCount = q.sentCount + 1 := by
    simp [sentCount_eq_countP, hmarked, hreports, hw]
    omega
  have holdest := h.deliveries.oldest
  rw [hreports] at holdest
  obtain ⟨-, -, -, timer, timerBelow⟩ := h.deliveries
  obtain ⟨-, -, hi2, -, -, -, ho8⟩ := h.settings
  refine ⟨h.places.congr (placed_overruns q) id, ?_, ⟨hmarked ▸ holdest.mark hsent, fun _ => ⟨rfl, hstalled⟩, ?_, ?_, ?_⟩, ?_,
    h.settings⟩
  · have hlen : q.placed.reports.length = q.reports.length := by simpa using congrArg List.length hseq
    rw [Queue.Numbered, hseq, hlen]
    exact h.numbered
  · rw [hcount]
    exact hwindow
  · rw [hcount]
    simp only [Queue.placed]
    split
    · simp
    · rename_i hne
      simpa using timer.mpr hne
  · simp only [Queue.placed]
    split
    · rintro _ ⟨⟩
      omega
    · exact timerBelow
  · change q.offerCount + 1 ≤ 8
    omega

/-! ## What an acknowledgement keeps (R66, R73) -/

theorem overruns_append {gone left : List Report} (hr : q.reports = gone ++ left) :
    q.overruns = gone.map (fun r => r.body.isOverrun) ++ left.map fun r => r.body.isOverrun := by
  rw [Queue.overruns, hr, List.map_append]

/-- The newer reports that a removal leaves, the timer restarted and STALLED cleared (R73). -/
theorem Queue.Fits.afterRemoval (h : q.Fits st) {gone left : List Report} (hr : q.reports = gone ++ left) {lost : Byte}
    (hl : lost ≠ 0 → true ∈ left.map fun r => r.body.isOverrun) :
    ({ q.afterRemoval left with lost := lost } : Queue).Fits st := by
  have hcount : left.countP (fun r => r.status = .sent) ≤ q.sentCount := by
    rw [sentCount_eq_countP, hr, List.countP_append]
    exact Nat.le_add_left _ _
  have hany : left.any (fun r => r.status = .sent) = true ↔ left.countP (fun r => r.status = .sent) ≠ 0 := by
    simp [List.countP_eq_zero]
  obtain ⟨ordinary, overrun, -⟩ := h.places
  obtain ⟨oldest, running, window, -, -⟩ := h.deliveries
  obtain ⟨-, -, hi2, -⟩ := h.settings
  rw [overruns_append hr, List.count_append] at ordinary overrun
  refine ⟨⟨le_trans (Nat.le_add_left _ _) ordinary, le_trans (Nat.le_add_left _ _) overrun, hl⟩, ?_,
    ⟨(hr ▸ oldest).newer, ?_, ?_, ?_, ?_⟩, h.offers, h.settings⟩
  · have hn : q.reports.map Report.seq = numbersBefore q.nextSeq q.reports.length := h.numbered
    rw [hr, List.map_append, List.length_append, ← List.length_map (as := gone) Report.seq,
      ← List.length_map (as := left) Report.seq] at hn
    have hnewer := numbersBefore_newer hn
    rwa [List.length_map] at hnewer
  · rw [sentCount_eq_countP]
    intro hne
    have hleft : left.countP (fun r => r.status = .sent) ≠ 0 := hne
    exact ⟨(running (by omega)).1, rfl⟩
  · rw [sentCount_eq_countP]
    exact hcount.trans window
  · rw [sentCount_eq_countP]
    refine Iff.trans ?_ hany
    simp only [Queue.afterRemoval]
    split <;> simp_all
  · intro k hk
    simp only [Queue.afterRemoval] at hk ⊢
    split at hk
    · obtain rfl := Option.some.inj hk
      omega
    · cases hk

/-- A matching acknowledgement's removals and follow-up: the losses held go into the new OVERRUN where the old one is gone (R66, R73). -/
theorem Queue.Fits.acknowledged (h : q.Fits st) {gone left : List Report} (hr : q.reports = gone ++ left) :
    ((q.afterRemoval left).followUp gone).Fits st := by
  have hgone : gone.any (fun r => r.body.isOverrun) = true ↔ true ∈ gone.map fun r => r.body.isOverrun := by simp
  obtain ⟨-, overrun, losses⟩ := h.places
  rw [overruns_append hr] at overrun losses
  unfold Queue.followUp
  split
  · rename_i hf
    rw [Bool.and_eq_true, hgone, ← List.count_pos_iff] at hf
    have hleft : true ∉ left.map fun r => r.body.isOverrun := by
      rw [List.count_append] at overrun
      rw [← List.count_eq_zero]
      omega
    exact (h.afterRemoval hr (lost := 0) fun h0 => absurd rfl h0).append_overrun hleft q.lost
  · rename_i hf
    refine h.afterRemoval hr (lost := q.lost) fun hl => ?_
    rw [Bool.and_eq_true, hgone, decide_eq_true_iff] at hf
    exact (List.mem_append.mp (losses hl)).resolve_left fun hg => hf ⟨hg, hl⟩

/-! ## What RESYNC, an emptying, a reset and LOOP SET keep (R80, R81, R83, R86) -/

theorem renumber_map {α : Type} {f : Report → α} (hf : ∀ r x, f (r.resynced x) = f r) (x : Byte) (rs : List Report) :
    (renumber x rs).map f = rs.map f := by
  induction rs generalizing x with
  | nil => rfl
  | cons r rs ih => rw [renumber, List.map_cons, List.map_cons, hf, ih]

theorem length_renumber (x : Byte) (rs : List Report) : (renumber x rs).length = rs.length := by
  simpa using congrArg List.length (renumber_map (f := Report.body) (fun _ _ => rfl) x rs)

/-- RESYNC leaves every report WAITING and never sent (R80). -/
theorem renumber_waiting {x : Byte} {rs : List Report} : ∀ r ∈ renumber x rs, r.status = .waiting ∧ r.everSent = false := by
  induction rs generalizing x with
  | nil => simp [renumber]
  | cons r rs ih =>
    rw [renumber, List.forall_mem_cons]
    exact ⟨⟨rfl, rfl⟩, ih⟩

theorem Queue.Fits.resync (h : q.Fits st) (x : Byte) : (q.resync x).Fits st := by
  have hkinds : (q.resync x).overruns = q.overruns := renumber_map (f := fun r => r.body.isOverrun) (fun _ _ => rfl) x q.reports
  refine ⟨h.places.congr hkinds id, ?_, deliveriesFit_of_waiting st (fun r hr => (renumber_waiting r hr).1) ?_ rfl, h.offers,
    h.settings⟩
  · simp only [Queue.Numbered, Queue.resync, renumber_seq, length_renumber]
  · exact List.pairwise_of_forall_mem_list fun _ _ r hr he => by simp [(renumber_waiting r hr).2] at he

/-- A queue without reports and without losses fits whatever the node's state. -/
theorem fits_of_empty {q : Queue} (st : NodeState) (hr : q.reports = []) (hl : q.lost = 0) (ht : q.ackTimer = none)
    (ho : q.offerCount ≤ 8) (hs : queueSettingsFit q) : q.Fits st := by
  refine ⟨⟨?_, ?_, ?_⟩, ?_, deliveriesFit_of_waiting st ?_ ?_ ht, ho, hs⟩ <;>
    simp [Queue.overruns, Queue.Numbered, numbersBefore, hr, hl]

theorem Queue.Fits.flush (h : q.Fits st) : q.flush.Fits st := fits_of_empty st rfl rfl rfl h.offers h.settings

theorem Queue.Fits.blockReset (h : q.Fits st) : q.blockReset.Fits st := fits_of_empty st rfl rfl rfl h.offers h.settings

theorem queueSettingsFit_reset : queueSettingsFit Queue.reset := by decide

theorem reset_fits (st : NodeState) : Queue.reset.Fits st := fits_of_empty st rfl rfl rfl (Nat.zero_le _) queueSettingsFit_reset

theorem nodeReset_fits (st : NodeState) (q : Queue) : q.nodeReset.Fits st :=
  fits_of_empty st rfl rfl rfl (Nat.zero_le _) queueSettingsFit_reset

/-- New settings in range, written while the node is not RUNNING (R83, R189). -/
theorem Queue.Fits.writeSettings (h : q.Fits st) (hst : st ≠ .running) {a : Args} (ha : loopSettingsFit a = true) :
    ({ q with window := a.a1, retryInterval := a.a2, retryLimit := a.a3, offerLimit := a.a4 } : Queue).Fits st := by
  obtain ⟨hcount, htimer⟩ := h.deliveries.idle hst
  obtain ⟨oldest, running, -, timer, -⟩ := h.deliveries
  simp only [loopSettingsFit, Bool.and_eq_true, decide_eq_true_eq] at ha
  have hsettings : queueSettingsFit { q with window := a.a1, retryInterval := a.a2, retryLimit := a.a3, offerLimit := a.a4 } := by
    simp only [queueSettingsFit]
    omega
  refine ⟨h.places.congr rfl id, h.numbered, ⟨oldest, running, ?_, timer, ?_⟩, h.offers, hsettings⟩
  · exact hcount.trans_le (Nat.zero_le _)
  · intro k hk
    cases htimer.symm.trans hk

end Sys2Proof.Machine
end

section
/-! Every operation of the block keeps the report queue in order, and so does every step. -/

namespace Sys2Proof.Machine

/-- If the queue is in order in `s`, it is in order in `t`. -/
def KeepsOrder (s t : State) : Prop := s.queue.Fits s.node.state → t.queue.Fits t.node.state

namespace KeepsOrder

theorem refl (s : State) : KeepsOrder s s := id

/-- The order of the queue hangs on the queue and the node's state alone. -/
theorem same {s t : State} (hq : t.queue = s.queue) (hn : t.node.state = s.node.state) : KeepsOrder s t := by
  unfold KeepsOrder
  rw [hq, hn]
  exact id

theorem trans {s t u : State} (h : KeepsOrder s t) (h' : KeepsOrder t u) : KeepsOrder s u := h' ∘ h

/-- What keeps the order from a state of the same queue and node state keeps it. -/
theorem after_same {s t u : State} (h : KeepsOrder t u) (hq : t.queue = s.queue) (hn : t.node.state = s.node.state) :
    KeepsOrder s u := (same hq hn).trans h

theorem ite {s t u : State} {c : Prop} [Decidable c] (h : KeepsOrder s t) (h' : KeepsOrder s u) :
    KeepsOrder s (if c then t else u) := by
  split <;> assumption

theorem foldl {α : Type} {f : State → α → State} {xs : List α} (h : ∀ x ∈ xs, ∀ s, KeepsOrder s (f s x)) (s : State) :
    KeepsOrder s (xs.foldl f s) := by
  induction xs generalizing s with
  | nil => exact refl s
  | cons x xs ih => exact (h x (by simp) s).trans (ih (fun y hy => h y (by simp [hy])) _)

theorem whenOperating {f : State → State} (h : ∀ s, KeepsOrder s (f s)) (s : State) : KeepsOrder s (whenOperating f s) :=
  ite (h s) (refl s)

theorem withEngine (s : State) (x : Engine) : KeepsOrder s (s.withEngine x) := same rfl rfl
theorem withLines (s : State) (x : LineMap) : KeepsOrder s (s.withLines x) := same rfl rfl
theorem withMap (s : State) (x : SlotMap) : KeepsOrder s (s.withMap x) := same rfl rfl
theorem sendOn (x : LoopPart) (s : State) : KeepsOrder s (sendOn x s) := same rfl rfl

/-! ## Enqueues and removals -/

theorem enqueueOnly {b : ReportBody} (hb : b.isOverrun = false) (s : State) : KeepsOrder s (enqueueOnly b s) := by
  rw [enqueueOnly_eq]
  exact fun h => h.after hb

/-- A CONTACT enqueue is an enqueue with the contact's own count beside it (R124, R125). -/
theorem enqueueContact (i : Fin 8) (active level : Bool) (s : State) : KeepsOrder s (enqueueContact i active level s) := by
  refine (enqueueOnly (b := .contact i active) rfl s).trans ?_
  unfold Machine.enqueueOnly Machine.enqueueContact
  split
  · rename_i t he
    rw [he]
    exact refl t
  · rename_i t he
    rw [he]
    exact refl t

theorem contactRemoval (i : Fin 8) (s : State) : KeepsOrder s (contactRemoval i s) :=
  have lowered (c : Contact) : KeepsOrder s (setContact i c s) := refl s
  ite ((lowered _).trans (enqueueContact i true true _)) (lowered _)

theorem contactRemovals (rs : List Report) (s : State) : KeepsOrder s (contactRemovals rs s) := by
  induction rs generalizing s with
  | nil => exact refl s
  | cons r rs ih =>
    unfold Machine.contactRemovals
    split
    · exact (contactRemoval _ s).trans (ih _)
    all_goals exact ih s

theorem acknowledge (seq : Byte) (s : State) : KeepsOrder s (acknowledge seq s) := by
  unfold Machine.acknowledge
  split
  · exact refl s
  · rename_i gone left hsplit
    obtain ⟨older, r, rfl, hreports, -, -⟩ := splitAtAck_some hsplit
    refine trans (t := s.withQueue _) (fun h => ?_) (contactRemovals _ _)
    exact h.acknowledged (by simpa using hreports)

theorem ackPair (position seq : Byte) (s : State) : KeepsOrder s (ackPair position seq s) := ite (acknowledge seq s) (refl s)

theorem ackList (p : Payload) (s : State) : KeepsOrder s (ackList p s) :=
  ((ackPair _ _ s).trans (ackPair _ _ _)).trans (ackPair _ _ _)

end KeepsOrder

/-! ## The reports of a pass -/

/-- No report made so far in the evaluation is an OVERRUN. -/
def Evaluation.Ordinary (e : Evaluation) : Prop := ∀ b ∈ e.reports, b.isOverrun = false

theorem Evaluation.ordinary_ite {e e' : Evaluation} {c : Prop} [Decidable c] (h : e.Ordinary) (h' : e'.Ordinary) :
    (if c then e else e').Ordinary := by
  split <;> assumption

/-- A key's turn makes no report but a KEY_DOWN or a KEY_UP (R109, R110). -/
theorem evaluateNext_ordinary (sc : Scanner) (closed : BitVec 64) (k : Fin 64) {e : Evaluation} (h : e.Ordinary) :
    (evaluateNext sc closed e k).Ordinary := by
  have recorded (x : KeyState) : (recordKey k x e).Ordinary := h
  have released : (releaseKey k e).Ordinary := by
    simpa [Evaluation.Ordinary, releaseKey, or_imp, forall_and, ReportBody.isOverrun] using h
  have accepted : ({ keys := setAt e.keys k .down, reports := e.reports ++ [.keyDown k] } : Evaluation).Ordinary := by
    simpa [Evaluation.Ordinary, or_imp, forall_and, ReportBody.isOverrun] using h
  have attempted : (attemptAcceptance k e).Ordinary := Evaluation.ordinary_ite accepted h
  refine Evaluation.ordinary_ite ?_ h
  unfold evaluateKey
  split
  · exact Evaluation.ordinary_ite (Evaluation.ordinary_ite attempted (recorded _)) h
  · exact Evaluation.ordinary_ite (Evaluation.ordinary_ite attempted (recorded _)) (recorded _)
  · exact Evaluation.ordinary_ite h (Evaluation.ordinary_ite released (recorded _))
  · exact Evaluation.ordinary_ite (recorded _) (Evaluation.ordinary_ite released (recorded _))
  · exact Evaluation.ordinary_ite attempted (recorded _)

theorem evaluateKeys_ordinary (sc : Scanner) (closed : BitVec 64) : (evaluateKeys sc closed).Ordinary := by
  have below : ∀ (ks : List (Fin 64)) (e : Evaluation), e.Ordinary → (ks.foldl (evaluateNext sc closed) e).Ordinary := by
    intro ks
    induction ks with
    | nil => exact fun _ h => h
    | cons k ks ih => exact fun e h => ih _ (evaluateNext_ordinary sc closed k h)
  exact below _ { keys := sc.keys, reports := [] } (by simp [Evaluation.Ordinary])

/-- A merge of two producers' enqueues holds theirs and no others (R113). -/
theorem mem_mergeReports {bs : List Bool} {xs ys : List PassReport} {r : PassReport} (h : r ∈ mergeReports bs xs ys) :
    r ∈ xs ∨ r ∈ ys := by
  fun_induction mergeReports bs xs ys with
  | case1 xs ys => exact List.mem_append.mp h
  | case2 _ _ ys => exact .inr h
  | case3 _ _ x xs => exact .inl h
  | case4 _ x xs y ys ih =>
    rcases List.mem_cons.mp h with rfl | h
    · simp
    · exact (ih h).imp_left (List.mem_cons_of_mem x)
  | case5 _ _ x xs y ys _ ih =>
    rcases List.mem_cons.mp h with rfl | h
    · simp
    · exact (ih h).imp_right (List.mem_cons_of_mem y)

namespace KeepsOrder

/-- An enqueue of a pass is a key's or a contact's, never an OVERRUN (R113). -/
theorem takePassReport {r : PassReport} (h : ∀ b, r = .key b → b.isOverrun = false) (s : State) :
    KeepsOrder s (takePassReport s r) := by
  cases r with
  | key b => exact enqueueOnly (h b rfl) s
  | contact i active level => exact enqueueContact i active level s

theorem completePass (v : PinView) (p : Pass) (s : State) : KeepsOrder s (completePass v p s) := by
  refine (foldl (fun r hr t => takePassReport ?_ t) _).after_same rfl rfl
  rintro b rfl
  rcases mem_mergeReports hr with hr | hr
  · obtain ⟨b', hb', he⟩ := List.mem_map.mp hr
    cases he
    exact evaluateKeys_ordinary _ _ b hb'
  · obtain ⟨i, -, hi⟩ := List.mem_filterMap.mp hr
    unfold contactReport? at hi
    split at hi
    · cases hi
    · split at hi <;> cases hi

theorem advanceChannel (ch : Fin 16) (s : State) : KeepsOrder s (advanceChannel ch s) := by
  unfold Machine.advanceChannel
  split
  dsimp only
  split
  · exact refl s
  · exact (enqueueOnly rfl _).after_same rfl rfl

theorem tickChannels (s : State) : KeepsOrder s (tickChannels s) := foldl (fun ch _ s => advanceChannel ch s) s

/-! ## The frame event -/

theorem mapFrameEvent (s : State) : KeepsOrder s (mapFrameEvent s) := by
  unfold Machine.mapFrameEvent
  exact ite ((enqueueOnly rfl _).after_same rfl rfl) (refl s)

theorem queueFrameEvent (s : State) : KeepsOrder s (queueFrameEvent s) := by
  by_cases hruns : s.node.state = .running ∧ 0 < s.queue.sentCount
  · by_cases hreached : s.queue.retryInterval.toNat ≤ s.queue.ackTimer.getD 0 + 1
    · rw [queueFrameEvent_timeout ((timeoutDue_iff s).mpr ⟨hruns.1, hruns.2, hreached⟩)]
      exact fun h => h.timeout _
    · rw [queueFrameEvent_counts hruns hreached]
      exact fun h => h.timerCounts hruns.2 (not_le.mp hreached)
  · rw [queueFrameEvent_rests hruns]
    exact refl s

theorem tookChoice (s : State) : KeepsOrder s (tookChoice s) := refl s

theorem frameEvent (s : State) : KeepsOrder s (frameEvent s) := by
  unfold Machine.frameEvent
  have choice := tookChoice s
  exact ite (ite ((choice.trans (mapFrameEvent _)).trans (queueFrameEvent _))
    ((choice.trans (queueFrameEvent _)).trans (mapFrameEvent _))) ((mapFrameEvent s).trans (queueFrameEvent _))

/-! ## The node controller -/

/-- Leaving a state by a go-back, or a state in which nothing is SENT, the node may enter any other (R23). -/
theorem onLeaving {n : NodeCtl} {q : Queue} (h : q.Fits n.state) (st : NodeState) : (queueOnLeaving n q).Fits st := by
  unfold queueOnLeaving
  split
  · exact h.goBack st
  · rename_i hn
    exact h.enter (fun hrun => hn (.inl hrun)) st

theorem becomeUnaddressed (s : State) : KeepsOrder s (becomeUnaddressed s) := by
  rw [becomeUnaddressed_eq]
  exact fun h => onLeaving h _

theorem becomeReady (position epoch : Byte) (s : State) : KeepsOrder s (becomeReady position epoch s) := by
  rw [becomeReady_eq]
  exact fun h => onLeaving h _

theorem enumerate (hop epoch : Byte) (s : State) : KeepsOrder s (enumerate hop epoch s).1 := by
  unfold Machine.enumerate
  split
  · exact refl s
  · split
    · exact becomeReady hop epoch s
    · exact becomeUnaddressed s

theorem resumeLoop {s : State} (hs : s.node.state = .fallback) : KeepsOrder s (resumeLoop s) :=
  fun h => h.enter (by simp [hs]) _

theorem returnFromFallback {s : State} (hs : s.node.state = .fallback) : KeepsOrder s (returnFromFallback s) := by
  have resumed : KeepsOrder s (Machine.resumeLoop s) := resumeLoop hs
  have chosen : KeepsOrder s (Machine.resumeLoop (Machine.tookChoice s)) := resumeLoop (s := Machine.tookChoice s) hs
  have notice (t : State) : KeepsOrder t (Machine.enqueueOnly (.loopResumed s.node.outageTimer) t) := enqueueOnly rfl t
  unfold Machine.returnFromFallback
  exact ite (ite ((chosen.trans (notice _)).trans (frameEvent _)) ((chosen.trans (frameEvent _)).trans (notice _)))
    ((resumed.trans (notice _)).trans (frameEvent _))

theorem ownEpochFrame (s : State) : KeepsOrder s (ownEpochFrame s) := by
  unfold Machine.ownEpochFrame
  split
  · exact refl s
  · exact frameEvent s
  · exact (frameEvent _).after_same rfl rfl
  · rename_i hs
    exact returnFromFallback hs

theorem normalHeader (epoch : Byte) (s : State) : KeepsOrder s (normalHeader epoch s) :=
  ite (refl s) (ite (ownEpochFrame s) (becomeUnaddressed s))

theorem headerArrivalAt (k : FrameKind) (h : HeaderBytes) (s : State) : KeepsOrder s (headerArrivalAt k h s).1 := by
  have taken : KeepsOrder s (queueHeader h.cycle s) := fun hq => hq.header h.cycle
  cases k with
  | normal => exact taken.trans (normalHeader _ _)
  | enumerate => exact taken.trans (enumerate _ _ _)

theorem startNode {s : State} (hs : s.node.state = .ready) : KeepsOrder s (startNode s) := by
  rw [startNode_eq]
  exact fun h => h.enter (by simp [hs]) _

theorem stopNode (s : State) : KeepsOrder s (stopNode s) := by
  unfold Machine.stopNode
  rw [leaveLoop_eq]
  exact fun h => onLeaving h _

theorem enterFallback (s : State) : KeepsOrder s (enterFallback s) := fun h => h.goBack _

theorem nodeReset (s : State) : KeepsOrder s (nodeReset s) := fun _ => nodeReset_fits _ _

theorem settleReset (s : State) : KeepsOrder s (settleReset s) := ite (nodeReset s) (refl s)

/-! ## Requests -/

theorem blockReset (b : BlockSet) (s : State) : KeepsOrder s (blockReset b s) := by
  have scanner : KeepsOrder s (if b.scanner then disableScanner true s else s) := ite (same rfl rfl) (refl s)
  have queue (t : State) : KeepsOrder t (if b.queue then resetQueueBlock t else t) := ite (fun h => h.blockReset) (refl t)
  have channels (t : State) : KeepsOrder t (if b.channels then t.withEngine t.engine.resetChannels else t) := ite (withEngine t _) (refl t)
  have slotMap (t : State) : KeepsOrder t (if b.slotMap then resetMapBlock t else t) := ite (withMap t _) (refl t)
  have effects (t : State) : KeepsOrder t (if b.effects then t.withEngine t.engine.resetEffects else t) := ite (withEngine t _) (refl t)
  exact (((scanner.trans (queue _)).trans (channels _)).trans (slotMap _)).trans (effects _)

/-- Most requests leave the queue and the node's state; LOOP SET, START, STOP, RESYNC, FLUSH and BLOCK RESET keep the order (9.11). -/
theorem serve (r : Request) (v : PinView) (a : Args) (s : State) : (serve r v a s).Takes fun _ t => KeepsOrder s t := by
  have kept : KeepsOrder s s := refl s
  cases r with
  | blockReset => exact withValue_takes fun b _ => blockReset b s
  | loopSet =>
    refine require_takes fun hs => require_takes fun ha h => h.writeSettings ?_ ha
    simp [of_decide_eq_true hs]
  | start =>
    refine require_takes fun hs => ?_
    split
    · trivial
    · exact startNode (of_decide_eq_true hs)
  | stop => exact require_takes fun _ => stopNode s
  | resync => exact fun h => h.resync a.a0
  | flush => exact fun h => h.flush
  | mapWrite => exact withIndex_takes fun _ _ => withValue_takes fun _ _ => require_takes fun _ => kept
  | mapCommit =>
    refine require_takes fun _ => ?_
    split
    · trivial
    · exact kept
  | info => exact ite_takes kept (ite_takes kept trivial)
  | status => exact ite_takes kept (ite_takes kept (ite_takes kept trivial))
  | counter => exact withIndex_takes fun n _ => withValue_takes fun clear _ => ite (t := clearCounter n s) kept kept
  | nodeReset | loopGet | contactsRead => exact kept
  | mapRead => exact withIndex_takes fun _ _ => withValue_takes fun _ _ => ite_takes kept kept
  | lineWrite => exact require_takes fun _ => withIndex_takes fun _ _ => withValue_takes fun _ _ => kept
  | scanSet =>
    refine ite_takes (require_takes fun _ => require_takes fun _ => kept) (ite_takes ?_ trivial)
    exact withIndex_takes fun _ _ => withValue_takes fun _ _ => withValue_takes fun _ _ => require_takes fun _ => kept
  | scanGet => exact ite_takes kept (ite_takes (withIndex_takes fun _ _ => kept) trivial)
  | lineRead | keysRead | effectRead | segmentRead => exact withIndex_takes fun _ _ => kept
  | effectWrite => exact withIndex_takes fun _ _ => withValue_takes fun _ _ => require_takes fun _ => kept
  | segmentWrite => exact withIndex_takes fun _ _ => require_takes fun _ => kept
  | channelSet | channelGet => exact withIndex_takes fun _ _ => withValue_takes fun _ _ => kept
  | channelDrive =>
    exact withIndex_takes fun _ _ => withValue_takes fun _ _ => withValue_takes fun _ _ => withValue_takes fun _ _ => kept
  | unknown _ => trivial

theorem addressed (position token : Byte) (r : Request) (v : PinView) (a : Args) (s : State) :
    KeepsOrder s (addressed position token r v a s).1 := by
  unfold Machine.addressed
  split
  · exact refl s
  · split
    · exact refl s
    · rename_i st d t hv
      have ht := serve r v a s
      rw [hv] at ht
      exact trans ht (ite (refl t) (refl t))

theorem broadcast (r : Request) (s : State) : KeepsOrder s (broadcast r s) := by
  unfold Machine.broadcast
  split
  · unfold broadcastStart
    split
    · rename_i hs
      split
      · exact refl s
      · exact startNode hs
    all_goals exact refl s
  · unfold broadcastStop
    split
    · exact stopNode s
    all_goals exact refl s
  · exact refl s
  · exact refl s

theorem mgmtSlot (tag token : Byte) (r : Request) (v : PinView) (a : Args) (s : State) :
    KeepsOrder s (mgmtSlot tag token r v a s).1 := by
  unfold Machine.mgmtSlot
  split
  · split
    iterate 3 exact broadcast r s
    exact refl s
  · split
    · split
      iterate 2 exact addressed tag token r v a s
      all_goals exact refl s
    · exact refl s

/-! ## Slots -/

theorem dataSlot (index : Nat) (p : Payload) (s : State) : KeepsOrder s (dataSlot index p s) := by
  have applied (t : TakeEntry) (v : TakeValue) (u : State) : KeepsOrder u (applyTake t v u) := by
    unfold applyTake
    split <;> exact refl u
  unfold Machine.dataSlot
  split
  · split
    · exact ite (refl s) (applied _ _ (storeLastValue _ _ s))
    all_goals exact refl s
  · exact refl s

theorem offer (tag : Byte) (s : State) : KeepsOrder s (offer tag s).1 := by
  unfold Machine.offer
  split
  · rename_i r p hr hp
    split
    · rename_i hm
      rw [Bool.and_eq_true, mayOffer_iff] at hm
      obtain ⟨-, hrun, hstalled, hoffers, hwindow, -⟩ := hm
      intro h
      rw [hrun] at h
      exact hrun ▸ h.placed hr hstalled hoffers hwindow
    · exact refl s
  · exact refl s

theorem dispatchSlot (k : SlotKind) (index : Nat) (b : SlotBytes) (v : PinView) (s : State) :
    KeepsOrder s (dispatchSlot k index b v s).1 := by
  cases k with
  | void | mgmtReply => exact refl s
  | data =>
    simp only [Machine.dispatchSlot]
    split
    · exact dataSlot index b.payload s
    · exact refl s
  | container =>
    simp only [Machine.dispatchSlot]
    split
    · exact offer b.tag s
    · exact refl s
  | ackList =>
    simp only [Machine.dispatchSlot]
    split
    · exact ackList b.payload s
    · exact refl s
  | mgmt => exact mgmtSlot _ _ _ v _ s

theorem judgeSlot (b : SlotBytes) (v : PinView) (kind : FrameKind) (index : Nat) (s : State) :
    KeepsOrder s (judgeSlot b v kind index s).1 := by
  unfold Machine.judgeSlot
  split
  · exact refl s
  · split
    · exact refl s
    · split
      · exact dispatchSlot _ index b v s
      · exact refl s

/-! ## Parts of the line stream -/

theorem finishSlot (count : Byte) (index : Nat) (d : Option FrameKind) (b : SlotBytes) {s : State} {r : SlotResult}
    (h : KeepsOrder s r.1) : KeepsOrder s (finishSlot count index d b r) := trans h (same rfl rfl)

theorem slotArrives (b : SlotBytes) (v : PinView) (s : State) : KeepsOrder s (slotArrives b (Machine.judgeSlot b v) s) := by
  unfold Machine.slotArrives
  split
  · exact ite (finishSlot _ _ _ b (judgeSlot b v _ _ s)) (sendOn _ s)
  · exact ite (finishSlot _ _ _ b (refl s)) (sendOn _ s)
  · exact sendOn _ s
  · exact sendOn _ s

theorem headerArrives (h : HeaderBytes) (s : State) : KeepsOrder s (headerArrives h s) := by
  unfold Machine.headerArrives
  split
  · split
    · exact refl s
    · exact refl s
    · exact headerArrivalAt _ h (setFrame _ (goodHeader (bump ctrGoodFrames s)))
  · exact refl s
  · exact refl s

theorem closeFrame (s : State) : KeepsOrder s (closeFrame s) := by
  unfold Machine.closeFrame
  split
  · exact refl s
  · exact refl s
  · exact ite (refl s) (refl s)
  · exact refl s

theorem startMarkArrives (tail : List Byte) (s : State) : KeepsOrder s (startMarkArrives tail s) := closeFrame s

theorem endMarkArrives (tail : List Byte) (s : State) : KeepsOrder s (endMarkArrives tail s) := closeFrame s

theorem markTimerExpires (s : State) : KeepsOrder s (markTimerExpires s) := by
  rw [markTimerExpires_eq]
  exact refl s

/-! ## Commands -/

theorem exec_supply {c : Instr} (h : isSupplyCommand c = true) {s t : State} (he : exec c s = .next t) : KeepsOrder s t := by
  cases c with
  | powerOnReset | powerLoss =>
    obtain rfl := Host.Outcome.next.inj he
    exact fun _ => reset_fits _
  | resetReleased | startUpComplete =>
    obtain rfl := Host.Outcome.next.inj he
    exact ite (refl s) (refl s)
  | pinReset pulse =>
    obtain ⟨rfl | rfl, -⟩ | rfl | rfl | ⟨rfl, -⟩ := execPinReset_cases he
    · exact fun _ => reset_fits _
    · exact fun _ => reset_fits _
    all_goals exact same rfl rfl
  | _ => cases h

/-- What every command but those of the supply does to a node in operation keeps the queue in order. -/
theorem exec_operating {c : Instr} (h : isSupplyCommand c = false) :
    ∃ f : State → State, (∀ s, KeepsOrder s (f s)) ∧ ∀ s, exec c s = .next (Machine.whenOperating f s) := by
  cases hr : c.request? with
  | some r =>
    obtain ⟨b, v, hslot⟩ := exec_request_eq_slot hr
    exact ⟨_, fun s => (settleReset s).trans (slotArrives b v _), hslot⟩
  | none =>
    cases c with
    | startMark tail => exact ⟨_, fun s => (settleReset s).trans (startMarkArrives tail _), fun _ => rfl⟩
    | endMark tail => exact ⟨_, fun s => (settleReset s).trans (endMarkArrives tail _), fun _ => rfl⟩
    | headerArrival bytes => exact ⟨_, fun s => (settleReset s).trans (headerArrives bytes _), fun _ => rfl⟩
    | slotArrival b v => exact ⟨_, fun s => (settleReset s).trans (slotArrives b v _), fun _ => rfl⟩
    | nodeResetTakesPlace => exact ⟨_, settleReset, fun _ => rfl⟩
    | markTimerExpiry => exact ⟨_, markTimerExpires, fun _ => rfl⟩
    | silenceTimerExpiry => exact ⟨_, fun s => ite (enterFallback s) (refl s), fun _ => rfl⟩
    | commitCarriedOut => exact ⟨_, fun s => ite (mapFrameEvent s) (refl s), fun _ => rfl⟩
    | timeoutGoBack => exact ⟨_, fun s => ite (fun hq => hq.timeout _) (refl s), fun _ => rfl⟩
    | outageTimerStep | passStart =>
      refine ⟨_, fun s => ?_, fun _ => rfl⟩
      exact ite (refl s) (refl s)
    | columnSettled v =>
      refine ⟨_, fun s => ?_, fun _ => rfl⟩
      split
      · exact ite (refl s) (refl s)
      · exact refl s
    | passCompletion v =>
      refine ⟨_, fun s => ?_, fun _ => rfl⟩
      split
      · exact ite (refl s) (completePass v _ s)
      · exact refl s
    | indicatorTick => exact ⟨_, tickChannels, fun _ => rfl⟩
    | glideEnd ch => exact ⟨_, fun s => ite (advanceChannel ch s) (refl s), fun _ => rfl⟩
    | segmentEnd ch => exact ⟨_, fun s => ite (advanceChannel ch s) (refl s), fun _ => rfl⟩
    | pulseWidthPeriod => exact ⟨beginPeriod, fun s => withLines s _, fun _ => rfl⟩
    | powerOnReset | pinReset | resetReleased | startUpComplete | powerLoss => cases h
    | _ => cases hr

theorem ofExec (c : Instr) {s t : State} (he : exec c s = .next t) : KeepsOrder s t := by
  cases hc : isSupplyCommand c with
  | true => exact exec_supply hc he
  | false =>
    obtain ⟨f, hf, hexec⟩ := exec_operating hc
    obtain rfl := Host.Outcome.next.inj ((hexec s).symm.trans he)
    exact whenOperating hf s

end KeepsOrder

/-- Settles O57: the queue's invariant is its order of places, numbers and deliveries, which every command keeps. -/
theorem stepKeepsTheQueue : Obligations.StepKeepsTheQueue := by
  refine step_keeps (P := QueueInv) (fun _ _ h => h) fun c s t hs he => ?_
  rw [queueInv_iff] at hs ⊢
  exact KeepsOrder.ofExec c he hs

end Sys2Proof.Machine
end

section
/-! Enqueues and the overrun handling, the offer of a container, and acknowledgement. -/

namespace Sys2Proof.Machine

/-! ## The overrun handling after a discard (R65) -/

theorem isOverrun_iff (b : ReportBody) : b.isOverrun = true ↔ ∃ n, b = .overrun n := by
  cases b <;> simp [ReportBody.isOverrun]

theorem handleOverrun_none {q : Queue} (h : q.reports.all (fun r => !r.body.isOverrun) = true) :
    q.handleOverrun = { q.append (.overrun q.lost) with lost := 0 } := by
  have hnone : q.overrun? = none := by simpa [Queue.overrun?] using h
  unfold Queue.handleOverrun
  rw [hnone]

section
variable {q : Queue} {older newer : List Report} {r : Report} {n : Byte}

/-- The one OVERRUN report of a queue is the one that is found. -/
theorem overrun?_mid (hq : q.reports = older ++ r :: newer) (hb : r.body = .overrun n)
    (ho : (older ++ newer).all (fun x => !x.body.isOverrun) = true) : q.overrun? = some r := by
  rw [List.all_append, Bool.and_eq_true, List.all_eq_true] at ho
  exact List.find?_eq_some_iff_append.mpr ⟨(isOverrun_iff _).mpr ⟨n, hb⟩, older, newer, hq, ho.1⟩

theorem growLost_ordinary (lost : Byte) {x : Report} (h : x.body.isOverrun = false) : x.growLost lost = x := by
  unfold Report.growLost
  split
  · rename_i hb
    simp [hb, ReportBody.isOverrun] at h
  all_goals rfl

theorem growLost_all_ordinary (lost : Byte) {xs : List Report} (h : xs.all (fun x => !x.body.isOverrun) = true) :
    xs.map (Report.growLost lost) = xs := by
  have hid : ∀ x ∈ xs, x.growLost lost = id x := fun x hx => growLost_ordinary lost (by simpa using List.all_eq_true.mp h x hx)
  rw [List.map_congr_left hid, List.map_id]

/-- A WAITING OVERRUN report takes the losses in (R65). -/
theorem handleOverrun_waiting (hq : q.reports = older ++ r :: newer) (hb : r.body = .overrun n)
    (ho : (older ++ newer).all (fun x => !x.body.isOverrun) = true) (hw : r.status = .waiting) :
    q.handleOverrun =
      { q with reports := older ++ { r with body := .overrun (satAdd n q.lost) } :: newer, lost := 0 } := by
  have hgrown : r.growLost q.lost = { r with body := .overrun (satAdd n q.lost) } := by simp only [Report.growLost, hb]
  unfold Queue.handleOverrun
  rw [overrun?_mid hq hb ho]
  rw [List.all_append, Bool.and_eq_true] at ho
  simp only [hw, hq, List.map_append, List.map_cons, hgrown, growLost_all_ordinary q.lost ho.1, growLost_all_ordinary q.lost ho.2]

/-- Beside a SENT OVERRUN report the losses stay held (R65). -/
theorem handleOverrun_sent (hq : q.reports = older ++ r :: newer) (hb : r.body = .overrun n)
    (ho : (older ++ newer).all (fun x => !x.body.isOverrun) = true) (hs : r.status = .sent) : q.handleOverrun = q := by
  unfold Queue.handleOverrun
  simp only [overrun?_mid hq hb ho, hs]

end

/-- An enqueue that finds no room is counted as one more loss, and the overrun handling makes the queue (R64). -/
theorem enqueue_full (b : ReportBody) {s : State} {q : Queue} {losses : Byte} (h : 31 ≤ s.queue.ordinaryCount)
    (hl : losses = if s.queue.lost = 255 then 255 else s.queue.lost + 1)
    (hq : ({ s.queue with lost := losses } : Queue).handleOverrun = q) :
    enqueue b s = (bump ctrLostReports { s with queue := q }, false) := by
  have hsat : satInc s.queue.lost = losses := (satInc_eq (top := 255) rfl _).trans hl.symm
  rw [enqueue_discarded b h, discardReport, hsat, hq]
  rfl

/-- Settles O16: with room the report is appended, and without it the OVERRUN report that is or is not in the queue decides. -/
theorem enqueueAppendsOrCountsTheLoss : Obligations.EnqueueAppendsOrCountsTheLoss := by
  refine ⟨⟨isOverrun_iff, ordinaryCount_eq_countP, fun _ _ => rfl⟩, fun b s => ⟨enqueue_appended b, fun h => ?_⟩⟩
  intro losses
  refine ⟨fun hno => ?_, fun older newer r n hq hb ho => ⟨fun hw => ?_, fun hs => ?_⟩⟩
  · exact enqueue_full b h rfl (handleOverrun_none hno)
  · exact enqueue_full b h rfl (handleOverrun_waiting hq hb ho hw)
  · exact enqueue_full b h rfl (handleOverrun_sent hq hb ho hs)

/-! ## Offering (R68, R69) -/

/-- A free container that the queue may fill takes the oldest WAITING report (R69). -/
theorem offer_filled {s : State} {r : Report} {p : Byte} (hm : mayOffer s = true) (hr : s.queue.oldestWaiting? = some r)
    (hp : s.node.position = some p) :
    offer 0xFF s = (s.withQueue s.queue.placed, some (makeSlot .container p (reportPayload r r.everSent))) := by
  simp [offer, hr, hp, hm]

theorem offer_passes {tag : Byte} {s : State} (h : ¬(tag = 0xFF ∧ mayOffer s = true)) : offer tag s = (s, none) := by
  unfold offer
  split
  · rw [if_neg (by simpa using h)]
  · rfl

theorem oldestWaiting?_mid {q : Queue} {older newer : List Report} {r : Report} (hq : q.reports = older ++ r :: newer)
    (hs : ∀ x ∈ older, x.status = .sent) (hw : r.status = .waiting) : q.oldestWaiting? = some r :=
  List.find?_eq_some_iff_append.mpr ⟨by simp [hw], older, newer, hq, fun x hx => by simp [hs x hx]⟩

/-- A good CONTAINER slot under an OFFER entry in RUNNING is offered to the queue (R41, R68). -/
theorem execSlotArrival_offer {s : State} {b : SlotBytes} {count : Byte} {i : Fin 48} (h : s.awaitsSlot .normal count i.val)
    (hg : goodSlot b) (hk : b.kind = 0x02) (hs : s.node.state = .running) (he : s.map.active.get i = .offer) (v : PinView) :
    execSlotArrival b v s = .next ((offer b.tag s).1.slotSent .normal count i.val ((offer b.tag s).2.getD b)) := by
  have hkind : SlotKind.ofCode b.kind = some .container := by rw [hk]; rfl
  have hentry : activeEntry s i.val = .offer := (activeEntry_val s i).trans he
  rw [execSlotArrival_awaits h, judgeSlot_normal hg hkind]
  simp only [dispatchSlot, hs, hentry, decide_true, Bool.and_self, if_true]

/-- Settles O17: the offer is made where its conditions hold, and its report is the first WAITING one. -/
theorem offerFillsAFreeContainer : Obligations.OfferFillsAFreeContainer := by
  refine ⟨⟨fun k => ⟨rfl, rfl⟩, fun i active => rfl, fun lost => rfl, rfl, fun e ch => rfl, fun outage => rfl⟩,
    fun s b v count p i h hg hk hs hp he => ⟨fun older newer r ht hstalled hoffers hwindow hq hold hw => ?_, fun hnot => ?_⟩⟩
  · have hm : mayOffer s = true := (mayOffer_iff s).mpr ⟨hs, hstalled, hoffers, hwindow, r, by simp [hq], hw⟩
    refine (execSlotArrival_offer h hg hk hs he v).trans ?_
    rw [ht, offer_filled hm (oldestWaiting?_mid hq hold hw) hp, Queue.placed, hq, markOldestWaiting_mid hold hw]
    rfl
  · refine (execSlotArrival_offer h hg hk hs he v).trans ?_
    rw [offer_passes]
    · rfl
    · rw [mayOffer_iff]
      rintro ⟨ht, -, hstalled, hoffers, hwindow, r, hr, hw⟩
      rcases hnot with hnot | hnot | hnot | hnot | hnot
      · exact hnot ht
      · simp [hstalled] at hnot
      · omega
      · omega
      · simp [hnot r hr] at hw

/-! ## Acknowledgement (R72 to R74) -/

theorem ackPair_other {p : Byte} {s : State} (h : p = 0 ∨ s.node.position ≠ some p) (q : Byte) : ackPair p q s = s := by
  unfold ackPair
  rw [if_neg]
  rw [Bool.and_eq_true, decide_eq_true_iff, decide_eq_true_iff]
  exact fun ⟨h0, hp⟩ => h.elim h0 fun hne => hne hp

theorem ackPair_own {p : Byte} {s : State} (h0 : p ≠ 0) (hp : s.node.position = some p) (q : Byte) :
    ackPair p q s = acknowledge q s := by
  unfold ackPair
  rw [if_pos]
  rw [Bool.and_eq_true, decide_eq_true_iff, decide_eq_true_iff]
  exact ⟨h0, hp⟩

theorem acknowledgedBy_iff (seq : Byte) (r : Report) : r.acknowledgedBy seq = true ↔ r.seq = seq ∧ r.everSent = true := by
  simp [Report.acknowledgedBy]

theorem acknowledgedBy_false {seq : Byte} {rs : List Report} (h : ∀ x ∈ rs, ¬(x.seq = seq ∧ x.everSent = true)) :
    ∀ x ∈ rs, x.acknowledgedBy seq = false := fun x hx => by
  rw [← Bool.not_eq_true, acknowledgedBy_iff]
  exact h x hx

theorem followUp_eq (q : Queue) (gone : List Report) :
    q.followUp gone =
      if gone.any (fun x => x.body.isOverrun) = true ∧ q.lost ≠ 0 then { q.append (.overrun q.lost) with lost := 0 } else q := by
  simp only [Queue.followUp, Bool.and_eq_true, decide_eq_true_iff]

/-- An ACKLIST's arrival in READY or RUNNING: its three pairs, and the slot as it came (R41, R72). -/
theorem execSlotArrival_ackList {s : State} {b : SlotBytes} {count : Byte} {index : Nat} (h : s.awaitsSlot .normal count index)
    (hg : goodSlot b) (hk : b.kind = 0x03) (hs : s.node.state = .ready ∨ s.node.state = .running) (v : PinView) :
    execSlotArrival b v s = .next ((ackList b.payload s).slotSent .normal count index b) := by
  have hkind : SlotKind.ofCode b.kind = some .ackList := by rw [hk]; rfl
  have hd : dispatchSlot .ackList index b v s = (ackList b.payload s, none) := by
    rcases hs with hs | hs <;> simp [dispatchSlot, hs]
  rw [execSlotArrival_awaits h, judgeSlot_normal hg hkind, hd]
  rfl

theorem contactRemovals_contact {r : Report} {i : Fin 8} {active : Bool} (h : r.body = .contact i active) (rs : List Report)
    (s : State) : contactRemovals (r :: rs) s = contactRemovals rs (contactRemoval i s) := by
  simp only [contactRemovals, h]

theorem contactRemovals_other {r : Report} (h : ∀ (i : Fin 8) (active : Bool), r.body ≠ .contact i active) (rs : List Report)
    (s : State) : contactRemovals (r :: rs) s = contactRemovals rs s := by
  rw [contactRemovals]
  split
  · rename_i i active hb
    exact absurd hb (h i active)
  all_goals rfl

/-- Settles O18: the pairs by whose they are, the acknowledgement by the report it names, the removals by their kind. -/
theorem acklistRemovesWhatItNames : Obligations.AcklistRemovesWhatItNames := by
  refine ⟨⟨fun s b v count index h hg hk hs => execSlotArrival_ackList h hg hk hs v, fun p q s h => ackPair_other h q,
      fun p q s h0 hp => ackPair_own h0 hp q⟩,
    ⟨fun q s older left r hq hseq hever hold => ?_, fun q s h => ?_⟩,
    fun r rs s => ⟨rfl, fun i active hb => contactRemovals_contact hb rs s, fun hb => contactRemovals_other hb rs s⟩⟩
  · have hsplit : splitAtAck q s.queue.reports = some (older ++ [r], left) := by
      rw [hq]
      exact splitAtAck_mid ((acknowledgedBy_iff q r).mpr ⟨hseq, hever⟩) (acknowledgedBy_false hold)
    simp only [acknowledge, hsplit, followUp_eq]
    rfl
  · simp only [acknowledge, splitAtAck_none (acknowledgedBy_false h)]

end Sys2Proof.Machine
end

section
/-! The tick as its channels' advances and their notices, and the ends of a glide and of a segment. -/

namespace Sys2Proof.Machine

/-! ## Enqueues one after the other -/

/-- These enqueues, one after the other (R64, R145). -/
def enqueueAll (bs : List ReportBody) (s : State) : State := bs.foldl (fun u b => enqueueOnly b u) s

theorem enqueueOnly_withEngine (b : ReportBody) (s : State) (e : Engine) :
    enqueueOnly b (s.withEngine e) = (enqueueOnly b s).withEngine e := by
  rw [enqueueOnly_eq, enqueueOnly_eq]
  rfl

theorem enqueueAll_withEngine (bs : List ReportBody) (s : State) (e : Engine) :
    enqueueAll bs (s.withEngine e) = (enqueueAll bs s).withEngine e := by
  induction bs generalizing s with
  | nil => rfl
  | cons b bs ih =>
    have h := ih (enqueueOnly b s)
    rw [← enqueueOnly_withEngine] at h
    exact h

/-- Enqueues move the queue and counter 6 (R62, R64). -/
theorem enqueueAll_eq (bs : List ReportBody) (s : State) :
    enqueueAll bs s = { s with queue := (enqueueAll bs s).queue, counters := (enqueueAll bs s).counters } := by
  have moved : ∃ q c, enqueueAll bs s = { s with queue := q, counters := c } := by
    induction bs generalizing s with
    | nil => exact ⟨_, _, rfl⟩
    | cons b bs ih =>
      obtain ⟨q, c, h⟩ := ih (enqueueOnly b s)
      refine ⟨q, c, h.trans ?_⟩
      rw [enqueueOnly_eq]
  obtain ⟨q, c, h⟩ := moved
  rw [h]

theorem enqueueAll_counter {n : Fin 10} (h : n ≠ ctrLostReports) (bs : List ReportBody) (s : State) :
    (enqueueAll bs s).counters.get n = s.counters.get n := by
  induction bs generalizing s with
  | nil => rfl
  | cons b bs ih =>
    refine (ih (enqueueOnly b s)).trans ?_
    rw [enqueueOnly_eq]
    dsimp only
    split
    · rfl
    · exact setAt_get_of_ne _ _ h.symm

/-- An enqueue that finds room adds one report and counts nothing (R62). -/
theorem enqueueOnly_appended (b : ReportBody) {s : State} (h : s.queue.ordinaryCount < 31) :
    (enqueueOnly b s).counters = s.counters ∧
      (enqueueOnly b s).queue.reports.map Report.body = s.queue.reports.map Report.body ++ [b] ∧
      (enqueueOnly b s).queue.ordinaryCount ≤ s.queue.ordinaryCount + 1 := by
  have happended : enqueueOnly b s = s.withQueue (s.queue.append b) := congrArg Prod.fst (enqueue_appended b h)
  rw [happended]
  refine ⟨rfl, by simp [Queue.append], ?_⟩
  rw [ordinaryCount_eq_countP, ordinaryCount_eq_countP]
  change (s.queue.reports ++ [_]).countP _ ≤ _
  rw [List.countP_append]
  exact Nat.add_le_add_left List.countP_le_length _

/-- Enqueues for which there is room are all appended, in their order (R62). -/
theorem enqueueAll_appended (bs : List ReportBody) {s : State} (h : s.queue.ordinaryCount + bs.length ≤ 31) :
    (enqueueAll bs s).counters = s.counters ∧
      (enqueueAll bs s).queue.reports.map Report.body = s.queue.reports.map Report.body ++ bs := by
  induction bs generalizing s with
  | nil => simp [enqueueAll]
  | cons b bs ih =>
    rw [List.length_cons] at h
    obtain ⟨hcounters, hbodies, hcount⟩ := enqueueOnly_appended b (s := s) (by omega)
    obtain ⟨hcounters', hbodies'⟩ := ih (s := enqueueOnly b s) (by omega)
    exact ⟨hcounters'.trans hcounters, hbodies'.trans (by rw [hbodies, List.append_assoc]; rfl)⟩

/-! ## The tick -/

/-- The notice that the tick's advance of a channel makes, if any (R145). -/
def Engine.notice? (e : Engine) (ch : Fin 16) : Option ReportBody :=
  (e.advance (e.channels.get ch)).2.map fun i => .effectEnd i ch

/-- The engine with these channels advanced (R138). -/
def Engine.advanced (e : Engine) (chs : List (Fin 16)) : Engine :=
  { e with channels := Vector.ofFn fun ch =>
      if ch ∈ chs then (e.advance (e.channels.get ch)).1 else e.channels.get ch }

theorem advanced_get (e : Engine) (chs : List (Fin 16)) (c : Fin 16) :
    (e.advanced chs).channels.get c = if c ∈ chs then (e.advance (e.channels.get c)).1 else e.channels.get c :=
  ofFn_get _ c

theorem advanced_effects (e : Engine) (chs : List (Fin 16)) : (e.advanced chs).effects = e.effects := by
  simp only [Engine.advanced]

theorem advanced_segments (e : Engine) (chs : List (Fin 16)) : (e.advanced chs).segments = e.segments := by
  simp only [Engine.advanced]

theorem engine_eq_of_channels {e e' : Engine} (he : e.effects = e'.effects) (hs : e.segments = e'.segments)
    (hc : e.channels = e'.channels) : e = e' := by
  cases e
  cases e'
  simp_all

theorem advanced_nil (e : Engine) : e.advanced [] = e := by
  simp [Engine.advanced]

theorem advanced_singleton (e : Engine) (ch : Fin 16) :
    e.advanced [ch] = { e with channels := setAt e.channels ch (e.advance (e.channels.get ch)).1 } := by
  refine engine_eq_of_channels rfl rfl (table_ext fun c => ?_)
  rw [advanced_get, setAt_get]
  by_cases hc : ch = c
  · simp [hc]
  · simp [hc, Ne.symm hc]

/-- One channel's advance leaves what another's will be (R138). -/
theorem advance_advanced {e : Engine} {ch c : Fin 16} (h : c ≠ ch) :
    (e.advanced [ch]).advance ((e.advanced [ch]).channels.get c) = e.advance (e.channels.get c) := by
  rw [advanced_get, if_neg (by simpa using h)]
  exact advance_channels e _ _

theorem advanced_advanced {e : Engine} {ch : Fin 16} {chs : List (Fin 16)} (h : ch ∉ chs) :
    (e.advanced [ch]).advanced chs = e.advanced (ch :: chs) := by
  refine engine_eq_of_channels (by simp only [advanced_effects]) (by simp only [advanced_segments]) (table_ext fun c => ?_)
  rw [advanced_get, advanced_get e (ch :: chs)]
  by_cases hc : c = ch
  · subst hc
    rw [if_neg h, advanced_get]
    simp
  · rw [advance_advanced hc, advanced_get]
    simp [hc]

/-- An advance in the whole state: the channel's, then its notice where it makes one (R138, R145). -/
theorem advanceChannel_eq_match (ch : Fin 16) (s : State) :
    let a := s.engine.advance (s.engine.channels.get ch)
    let moved : State := { s with engine := { s.engine with channels := setAt s.engine.channels ch a.1 } }
    advanceChannel ch s = match a.2 with
      | none => moved
      | some i => (enqueue (.effectEnd i ch) moved).1 := rfl

theorem advanceChannel_eq_enqueueAll (ch : Fin 16) (s : State) :
    advanceChannel ch s = (enqueueAll (s.engine.notice? ch).toList s).withEngine (s.engine.advanced [ch]) := by
  rw [← enqueueAll_withEngine, advanced_singleton, advanceChannel_eq_match]
  unfold Engine.notice?
  dsimp only
  cases (s.engine.advance (s.engine.channels.get ch)).2 <;> rfl

/-- Channels advanced one after the other: none sees another's advance, and the notices are enqueued in the channels' order (R138, R145). -/
theorem foldl_advanceChannel {chs : List (Fin 16)} (h : chs.Nodup) (s : State) :
    chs.foldl (fun u ch => advanceChannel ch u) s =
      (enqueueAll (chs.filterMap s.engine.notice?) s).withEngine (s.engine.advanced chs) := by
  induction chs generalizing s with
  | nil => rw [advanced_nil]; rfl
  | cons ch chs ih =>
    obtain ⟨hch, hnodup⟩ := List.nodup_cons.mp h
    have hengine : (advanceChannel ch s).engine = s.engine.advanced [ch] := by rw [advanceChannel_eq_enqueueAll]; rfl
    have hnotices : chs.filterMap (s.engine.advanced [ch]).notice? = chs.filterMap s.engine.notice? := by
      refine List.filterMap_congr fun c hc => ?_
      have hne : c ≠ ch := fun heq => hch (heq ▸ hc)
      simp only [Engine.notice?, advance_advanced hne]
    have hall : enqueueAll ((ch :: chs).filterMap s.engine.notice?) s =
        enqueueAll (chs.filterMap s.engine.notice?) (enqueueAll (s.engine.notice? ch).toList s) := by
      cases hn : s.engine.notice? ch <;> simp [enqueueAll, hn]
    rw [List.foldl_cons, ih hnodup, hengine, hnotices, advanced_advanced hch, advanceChannel_eq_enqueueAll,
      enqueueAll_withEngine, hall]
    rfl

theorem tickChannels_eq (s : State) :
    tickChannels s =
      (enqueueAll ((List.finRange 16).filterMap s.engine.notice?) s).withEngine (s.engine.advanced (List.finRange 16)) :=
  foldl_advanceChannel (List.nodup_finRange 16) s

/-! ## The rows that end a glide or a segment (entry 8) -/

/-- GLIDE_END's advance of a glide that its tick ends (R140). -/
theorem advance_glideEnd {e : Engine} {c : Channel} {start target length : Byte} {elapsed : Nat}
    (h : c.motion = .gliding start target length elapsed) (he : length.toNat ≤ elapsed + 1) :
    e.advance c = ({ c with motion := .steady, level := target }, none) := by
  simp only [Engine.advance, h, if_neg (Nat.not_lt.mpr he)]
  rfl

theorem execGlideEnd_ends {s : State} {ch : Fin 16} (hp : s.phase = .operating)
    (h : (s.engine.channels.get ch).glideEnds = true) : execGlideEnd ch s = .next (advanceChannel ch s) := by
  unfold execGlideEnd
  rw [whenOperating_of hp, if_pos h]

theorem execSegmentEnd_ends {s : State} {ch : Fin 16} (hp : s.phase = .operating)
    (h : s.engine.segmentEnds (s.engine.channels.get ch) = true) : execSegmentEnd ch s = .next (advanceChannel ch s) := by
  unfold execSegmentEnd
  rw [whenOperating_of hp, if_pos h]

/-- Settles O27: the tick is every channel's own advance with the notices enqueued in order, and the two rows are one channel's. -/
theorem ticksAdvanceTheChannels : Obligations.TicksAdvanceTheChannels := by
  refine ⟨fun s hp => ?_, fun s ch start target length elapsed hp hm hend => ?_,
    fun s ch i position tick segStart runs hp hm hend => ?_⟩
  · have htick := tickChannels_eq s
    have hnotices := enqueueAll_eq ((List.finRange 16).filterMap s.engine.notice?) s
    refine ⟨tickChannels s, congrArg Host.Outcome.next (whenOperating_of hp), ?_, ?_, ?_, ?_, ?_, ?_, ?_⟩
    · rw [htick, hnotices]
      rfl
    · rw [htick, State.withEngine_engine, advanced_effects]
    · rw [htick, State.withEngine_engine, advanced_segments]
    · intro ch
      rw [htick, State.withEngine_engine, advanced_get, if_pos (List.mem_finRange ch)]
    · rw [htick]
      exact ⟨rfl, rfl⟩
    · intro n hn
      rw [htick]
      exact enqueueAll_counter hn _ s
    · intro hroom
      have hlen : ((List.finRange 16).filterMap s.engine.notice?).length ≤ 16 := by
        simpa using List.length_filterMap_le s.engine.notice? (List.finRange 16)
      rw [htick]
      exact enqueueAll_appended _ (by omega)
  · have hends : (s.engine.channels.get ch).glideEnds = true := by simp [Channel.glideEnds, hm, hend]
    refine (execGlideEnd_ends hp hends).trans ?_
    rw [advanceChannel_eq_match, advance_glideEnd hm hend]
  · have hends : s.engine.segmentEnds (s.engine.channels.get ch) = true := by simp [Engine.segmentEnds, hm, hend]
    exact (execSegmentEnd_ends hp hends).trans (congrArg Host.Outcome.next (advanceChannel_eq_match ch s))

end Sys2Proof.Machine
end

section
/-! STATUS, LOOP SET, RESYNC and FLUSH. -/

namespace Sys2Proof.Machine

/-! ## RESYNC and FLUSH (R80, R81) -/

/-- RESYNC by position: the report at place `n` takes the number `x + n` (R80). -/
theorem renumber_eq_mapIdx (x : Byte) (rs : List Report) :
    renumber x rs = rs.mapIdx fun n r => r.resynced (x + BitVec.ofNat 8 n) := by
  induction rs generalizing x with
  | nil => rfl
  | cons r rs ih =>
    have hnext : (fun n (y : Report) => y.resynced (x + 1 + BitVec.ofNat 8 n)) =
        fun n y => y.resynced (x + BitVec.ofNat 8 (n + 1)) := by
      funext n y
      congr 1
      rw [BitVec.ofNat_add]
      bv_omega
    rw [renumber, ih, List.mapIdx_cons, hnext]
    simp

theorem resync_eq (q : Queue) (x : Byte) :
    q.resync x =
      { q with
        reports := q.reports.mapIdx fun n r => r.resynced (x + BitVec.ofNat 8 n)
        nextSeq := x + BitVec.ofNat 8 q.reports.length
        stalled := false
        ackTimer := none } := by
  rw [← renumber_eq_mapIdx]
  rfl

/-- Settles O44: both requests are taken as they come, with the length of the queue before it. -/
theorem resyncRenumbersAndFlushEmpties : Obligations.ResyncRenumbersAndFlushEmpties := by
  refine fun tag token a s count index h => ⟨fun hf => ?_, fun hf => ?_⟩
  · have hserve : serve .resync noPins a s =
        .taken .ok { noData with d0 := natByte s.queue.reports.length } (s.withQueue (s.queue.resync a.a0)) := rfl
    rw [resync_eq] at hserve
    exact row_taken .resync h hf hserve
  · have hserve : serve .flush noPins a s =
        .taken .ok { noData with d0 := natByte s.queue.reports.length } (queueEmptied (s.withQueue s.queue.flush)) := rfl
    exact row_taken .flush h hf hserve

/-! ## STATUS (R179, R180) -/

/-- STATUS page 0's flag byte of a node that serves requests, one term per bit (10.5). -/
theorem statusFlags_eq {s : State} (h : s.node.state = .ready ∨ s.node.state = .running) :
    statusFlags s =
      (if s.node.state = .ready then 1 else 2) + (if s.port.link = .locked then 4 else 0)
        + (if s.map.commitPending = true then 8 else 0) + (if s.scanner.enabled = true then 16 else 0)
        + (if s.queue.stalled = true then 32 else 0) + (if s.node.startRefused ≠ none then 64 else 0) := by
  have term (b : Bool) (weight : Byte) : weight * flagByte b = if b = true then weight else 0 := by cases b <;> simp [flagByte]
  have hstate : s.node.state.code = if s.node.state = .ready then 1 else 2 := by rcases h with h | h <;> simp [h, NodeState.code]
  have hrefused : s.node.startRefused.isSome = true ↔ s.node.startRefused ≠ none := by
    rw [Option.isSome_iff_ne_none]
  simp only [statusFlags, hstate, term, decide_eq_true_eq, hrefused]

theorem startRefusedBytes_eq (s : State) :
    startRefusedBytes s =
      (match s.node.startRefused with
        | none => 0
        | some (reason, _) => reason.code,
       match s.node.startRefused with
        | none => 0
        | some (_, line) => natByte line.val) := by
  unfold startRefusedBytes
  cases s.node.startRefused <;> rfl

section
variable {a : Args} (s : State) (v : PinView)

theorem serve_status_page0 (h : a.a0.toNat = 0) : serve .status v a s = .taken .ok (statusPage0 s) s := by
  have ha : a.a0 = 0 := BitVec.eq_of_toNat_eq h
  simp [serve, reqStatus, ha]

theorem serve_status_page1 (h : a.a0.toNat = 1) : serve .status v a s = .taken .ok (statusPage1 s) s := by
  have ha : a.a0 = 1 := BitVec.eq_of_toNat_eq h
  simp [serve, reqStatus, ha]

theorem serve_status_page2 (h : a.a0.toNat = 2) : serve .status v a s = .taken .ok (statusPage2 s) s := by
  have ha : a.a0 = 2 := BitVec.eq_of_toNat_eq h
  simp [serve, reqStatus, ha]

theorem serve_status_badPage (h : 3 ≤ a.a0.toNat) : serve .status v a s = .refused .badValue noData := by
  have h0 : a.a0 ≠ 0 := by rintro h0; simp [h0] at h
  have h1 : a.a0 ≠ 1 := by rintro h1; simp [h1] at h
  have h2 : a.a0 ≠ 2 := by rintro h2; simp [h2] at h
  simp only [serve, reqStatus, if_neg h0, if_neg h1, if_neg h2, refuse]

end

/-- Settles O35: each page by its selector, page 0's bytes from the fields they show. -/
theorem statusShowsThreePages : Obligations.StatusShowsThreePages := by
  refine fun tag token a s count index h hf => ⟨fun h0 => ?_, fun h1 => row_taken .status h hf (serve_status_page1 s noPins h1),
    fun h2 => row_taken .status h hf (serve_status_page2 s noPins h2),
    fun h3 => row_refused .status h hf (serve_status_badPage s noPins h3)⟩
  obtain ⟨-, hposition, -, hstate⟩ := id h
  refine (row_taken .status h hf (serve_status_page0 s noPins h0)).trans ?_
  simp only [statusPage0, statusFlags_eq hstate, hposition, startRefusedBytes_eq, Option.getD_some]
  rfl

/-! ## LOOP SET (R83, R189) -/

theorem loopSettingsFit_iff (a : Args) : loopSettingsFit a = true ↔
    2 ≤ a.a0.toNat ∧ a.a0.toNat ≤ 250 ∧ 1 ≤ a.a1.toNat ∧ a.a1.toNat ≤ 8 ∧ 2 ≤ a.a2.toNat ∧ a.a2.toNat ≤ 31 ∧
      a.a3.toNat ≤ 7 ∧ 1 ≤ a.a4.toNat ∧ a.a4.toNat ≤ 8 := by
  simp only [loopSettingsFit, Bool.and_eq_true, decide_eq_true_eq, and_assoc]

theorem serve_loopSet {a : Args} {s : State} (hs : s.node.state = .ready) (ha : loopSettingsFit a = true) (v : PinView) :
    serve .loopSet v a s = .taken .ok (loopData (writeLoopSettings a s)) (writeLoopSettings a s) := by
  simp only [serve, reqLoopSet, require, hs, ha, decide_true, if_true]

theorem serve_loopSet_badValue {a : Args} {s : State} (hs : s.node.state = .ready) (ha : ¬loopSettingsFit a = true) (v : PinView) :
    serve .loopSet v a s = .refused .badValue noData := by
  simp only [serve, reqLoopSet, require, hs, if_neg ha, decide_true, if_true, refuse]

/-- Settles O39: the five settings are written and answered together, or refused together. -/
theorem loopSetWritesFiveSettings : Obligations.LoopSetWritesFiveSettings := by
  intro tag token a s count index h hf hs fits
  have hfit : loopSettingsFit a = true ↔ fits := loopSettingsFit_iff a
  exact ⟨fun ha => row_taken .loopSet h hf (serve_loopSet hs (hfit.mpr ha) noPins),
    fun ha => row_refused .loopSet h hf (serve_loopSet_badValue hs (fun hok => ha (hfit.mp hok)) noPins)⟩

end Sys2Proof.Machine
end

section
/-! One key's turn in a pass, said once, and what a pass's evaluation keeps. -/

namespace Sys2Proof.Machine

/-! ## One key's turn (R108 to R111) -/

/-- What a turn with D debounce passes makes of the evaluation: nothing, a record that holds the key no more than before and counts below D,
an acceptance below four held keys, or a release. -/
inductive KeyTurn (D : Nat) (k : Fin 64) (e : Evaluation) : Evaluation → Prop
  | kept : KeyTurn D k e e
  | recorded (x : KeyState) (hcount : keyCountFits D x = true) (hheld : x.isHeld = true → (e.keys.get k).isHeld = true) :
    KeyTurn D k e (recordKey k x e)
  | accepted (h : heldCount e.keys < 4) :
    KeyTurn D k e { keys := setAt e.keys k .down, reports := e.reports ++ [.keyDown k] }
  | released : KeyTurn D k e (releaseKey k e)

namespace KeyTurn

variable {D : Nat} {k : Fin 64} {e : Evaluation}

theorem ite {t u : Evaluation} {c : Prop} [Decidable c] (h : c → KeyTurn D k e t) (h' : ¬c → KeyTurn D k e u) :
    KeyTurn D k e (if c then t else u) := by
  split
  · exact h ‹_›
  · exact h' ‹_›

/-- A record in which the key is not held, with no count. -/
theorem recordedUp : KeyTurn D k e (recordKey k .up e) := .recorded .up rfl nofun

/-- A first or further pending pass counts from 1 and stays below D (R108). -/
theorem recordedPress {n : Nat} (h : ¬D ≤ n + 1) : KeyTurn D k e (recordKey k (.pressPending (n + 1)) e) :=
  .recorded _ (by simpa [keyCountFits] using h) nofun

/-- The same of a key that is held already (R109). -/
theorem recordedRelease {n : Nat} (h : ¬D ≤ n + 1) (hk : (e.keys.get k).isHeld = true) :
    KeyTurn D k e (recordKey k (.releasePending (n + 1)) e) :=
  .recorded _ (by simpa [keyCountFits] using h) fun _ => hk

theorem attempted : KeyTurn D k e (attemptAcceptance k e) := by
  refine ite (fun h => ?_) fun _ => .recorded .blocked rfl nofun
  simp only [acceptable, Bool.and_eq_true, decide_eq_true_eq] at h
  exact .accepted h.1

theorem ofEvaluateKey (D : Nat) (closed : Bool) (k : Fin 64) (e : Evaluation) : KeyTurn D k e (evaluateKey D closed k e) := by
  unfold evaluateKey
  split
  · exact ite (fun _ => ite (fun _ => attempted) recordedPress) fun _ => kept
  · exact ite (fun _ => ite (fun _ => attempted) recordedPress) fun _ => recordedUp
  · rename_i hk
    exact ite (fun _ => kept) fun _ => ite (fun _ => released) fun h => recordedRelease h (by simp [hk, KeyState.isHeld])
  · rename_i hk
    have hheld : (e.keys.get k).isHeld = true := by simp [hk, KeyState.isHeld]
    exact ite (fun _ => .recorded .down rfl fun _ => hheld) fun _ => ite (fun _ => released) fun h => recordedRelease h hheld
  · exact ite (fun _ => attempted) fun _ => recordedUp

end KeyTurn

/-- What holds before the first turn, and goes from each key's turn to the next, holds of the pass's evaluation (R107, R112). -/
theorem evaluateKeys_of_turns {sc : Scanner} {closed : BitVec 64} {P : Nat → Evaluation → Prop}
    (hfirst : P 0 { keys := sc.keys, reports := [] })
    (hpassed : ∀ (k : Fin 64) e, P k.val e → P (k.val + 1) e)
    (hturn : ∀ (k : Fin 64) e e', inMatrix sc.rowLines.length sc.columnLines.length k = true →
      KeyTurn sc.debounce.toNat k e e' → P k.val e → P (k.val + 1) e') : P 64 (evaluateKeys sc closed) := by
  have below : ∀ n ≤ 64, P n (evaluateBelow sc closed n) := by
    intro n
    induction n with
    | zero => exact fun _ => hfirst
    | succ n ih =>
      intro hn
      rw [evaluateBelow_succ sc closed ⟨n, hn⟩]
      unfold evaluateNext
      split
      · rename_i hk
        exact hturn ⟨n, hn⟩ _ _ hk (.ofEvaluateKey _ _ _ _) (ih (by omega))
      · exact hpassed ⟨n, hn⟩ _ (ih (by omega))
  rw [evaluateKeys_eq]
  exact below 64 le_rfl

/-! ## Held keys (R101, R110) -/

/-- One record replaced makes at most one more key held. -/
theorem heldCount_setAt_le_succ (keys : KeyTable) (k : Fin 64) (x : KeyState) :
    heldCount (setAt keys k x) ≤ heldCount keys + 1 := by
  refine (List.subperm_of_subset (l₂ := k :: (List.finRange 64).filter fun j => (keys.get j).isHeld)
    ((List.nodup_finRange 64).filter _) fun j hj => ?_).length_le
  by_cases hjk : j = k
  · simp [hjk]
  · simpa [hjk, setAt_get_of_ne keys x (Ne.symm hjk)] using hj

/-- A record of a key that is held only if it was before makes no further key held. -/
theorem heldCount_setAt_le {keys : KeyTable} {k : Fin 64} {x : KeyState}
    (h : x.isHeld = true → (keys.get k).isHeld = true) : heldCount (setAt keys k x) ≤ heldCount keys := by
  refine (List.monotone_filter_right (List.finRange 64) fun j hj => ?_).length_le
  by_cases hjk : k = j
  · subst hjk
    exact h (by simpa using hj)
  · simpa [setAt_get_of_ne keys x hjk] using hj

/-! ## The keys' part of the scanner's invariant -/

/-- The key records of a matrix of R rows and C columns with D debounce passes (R101, R108 to R110). -/
structure KeysFit (R C D : Nat) (keys : KeyTable) : Prop where
  held : heldCount keys ≤ 4
  outside : ∀ k, inMatrix R C k = false → keys.get k = .up
  counts : ∀ k, keyCountFits D (keys.get k) = true

theorem allKeysUp_fits (R C D : Nat) : KeysFit R C D allKeysUp where
  held := heldCount_allKeysUp.le.trans (by decide)
  outside k _ := by simp [allKeysUp]
  counts k := by simp [allKeysUp, keyCountFits]

section
variable {R C D : Nat} {k : Fin 64}

/-- A key of the matrix is recorded: with its count below D, and the held keys still four at most. -/
theorem KeysFit.replaced {keys : KeyTable} (h : KeysFit R C D keys) (hk : inMatrix R C k = true) {x : KeyState}
    (hcount : keyCountFits D x = true) (hheld : heldCount (setAt keys k x) ≤ 4) : KeysFit R C D (setAt keys k x) where
  held := hheld
  outside j hj := by
    have hkj : k ≠ j := by
      rintro rfl
      simp [hk] at hj
    rw [setAt_get_of_ne keys x hkj, h.outside j hj]
  counts j := by
    rw [setAt_get]
    split
    · exact hcount
    · exact h.counts j

/-- A turn keeps the records in their ranges: only an acceptance makes a further key held, and it finds fewer than four (R110). -/
theorem KeyTurn.fits {e e' : Evaluation} (hturn : KeyTurn D k e e') (hk : inMatrix R C k = true) (h : KeysFit R C D e.keys) :
    KeysFit R C D e'.keys := by
  cases hturn with
  | kept => exact h
  | recorded x hcount hheld => exact h.replaced hk hcount ((heldCount_setAt_le hheld).trans h.held)
  | accepted hfew => exact h.replaced hk rfl ((heldCount_setAt_le_succ _ _ _).trans hfew)
  | released => exact h.replaced hk rfl ((heldCount_setAt_le (x := .up) nofun).trans h.held)

end

/-- A pass's evaluation keeps the key records in their ranges (R107). -/
theorem evaluateKeys_fits {sc : Scanner} (closed : BitVec 64)
    (h : KeysFit sc.rowLines.length sc.columnLines.length sc.debounce.toNat sc.keys) :
    KeysFit sc.rowLines.length sc.columnLines.length sc.debounce.toNat (evaluateKeys sc closed).keys :=
  evaluateKeys_of_turns (P := fun _ e => KeysFit _ _ _ e.keys) h (fun _ _ he => he) fun _ _ _ hk hturn => hturn.fits hk

end Sys2Proof.Machine
end

section
/-! What the scanner's own operations keep of its invariant. -/

namespace Sys2Proof.Machine

/-- The scanner's settings in their ranges (R115). -/
structure ScanSettingsFit (interval debounce : Byte) : Prop where
  interval : 1 ≤ interval.toNat ∧ interval.toNat ≤ 32
  debounce : 1 ≤ debounce.toNat ∧ debounce.toNat ≤ 15

/-- The scanner's lines are those of the line map (R99). -/
structure LinesHandedOver (sc : Scanner) (t : LineTable) : Prop where
  rows : sc.rowLines = (List.range (rowCount t)).filterMap (rowLine? t)
  columns : sc.columnLines = (List.range (columnCount t)).filterMap (columnLine? t)
  contacts : ∀ i, sc.contactLines.get i = contactLine? t i

/-- The scanner's invariant by its parts: a scanner beside the entries of the line map. -/
structure ScannerFits (sc : Scanner) (t : LineTable) : Prop where
  keys : KeysFit sc.rowLines.length sc.columnLines.length sc.debounce.toNat sc.keys
  rows : sc.rowLines.length ≤ 8
  columns : sc.columnLines.length ≤ 8
  settings : ScanSettingsFit sc.interval sc.debounce
  pass : ∀ p ∈ sc.pass, p.column ≤ sc.columnLines.length
  timer : sc.passTimer.isSome = true ↔ sc.enabled = true
  stopped : sc.enabled = false → sc.rowLines = [] ∧ sc.columnLines = [] ∧ sc.pass = none
  running : sc.enabled = true → LinesHandedOver sc t

theorem scannerInv_iff (s : State) : ScannerInv s ↔ ScannerFits s.scanner s.lines.entries where
  mp := by
    rintro ⟨held, outside, counts, rows, columns, iLow, iHigh, dLow, dHigh, pass, timer, stopped, running⟩
    refine ⟨⟨held, outside, counts⟩, rows, columns, ⟨⟨iLow, iHigh⟩, ⟨dLow, dHigh⟩⟩, pass, timer, stopped, fun he => ?_⟩
    obtain ⟨rowLines, columnLines, contactLines⟩ := running he
    exact ⟨rowLines, columnLines, contactLines⟩
  mpr h :=
    ⟨h.keys.held, h.keys.outside, h.keys.counts, h.rows, h.columns, h.settings.interval.1, h.settings.interval.2,
      h.settings.debounce.1, h.settings.debounce.2, h.pass, h.timer, h.stopped,
      fun he => ⟨(h.running he).rows, (h.running he).columns, (h.running he).contacts⟩⟩

/-! ## The lines handed over (R99) -/

/-- Of the indices up to any number, at most `b` give an entry where none from `b` on does. -/
theorem length_filterMap_range_le {α : Type} {g : Nat → Option α} {b : Nat} (h : ∀ k, b ≤ k → g k = none) (n : Nat) :
    ((List.range n).filterMap g).length ≤ b := by
  have hle : ((List.range n).filterMap g).length ≤ min n b := by
    induction n with
    | zero => simp
    | succ n ih =>
      rw [List.range_succ, List.filterMap_append, List.length_append]
      rcases Nat.lt_or_ge n b with hn | hn
      · have hone := List.length_filterMap_le g [n]
        simp only [List.length_singleton] at hone
        omega
      · simp only [List.filterMap_cons, h n hn, List.filterMap_nil, List.length_nil]
        omega
  exact hle.trans (min_le_right n b)

/-- An index of 8 or more has no line. -/
theorem holder?_of_le (f : LineEntry → Option (Fin 8)) (t : LineTable) {k : Nat} (h : 8 ≤ k) : holder? f t k = none := by
  refine find?_finRange_none.mpr fun l => ?_
  cases f (t.get l) with
  | none => rfl
  | some i => simpa using show i.val ≠ k by omega

theorem rowLines_length_le (t : LineTable) (n : Nat) : ((List.range n).filterMap (rowLine? t)).length ≤ 8 := by
  rw [rowLine?_eq]
  exact length_filterMap_range_le (fun _ => holder?_of_le _ t) n

theorem columnLines_length_le (t : LineTable) (n : Nat) : ((List.range n).filterMap (columnLine? t)).length ≤ 8 := by
  rw [columnLine?_eq]
  exact length_filterMap_range_le (fun _ => holder?_of_le _ t) n

namespace ScannerFits

variable {sc : Scanner} {t : LineTable}

/-! ## Enable, disable and settings (R102, R103, R115) -/

theorem reset (t : LineTable) : ScannerFits .reset t where
  keys := allKeysUp_fits _ _ _
  rows := by decide
  columns := by decide
  settings := ⟨by decide, by decide⟩
  pass := nofun
  timer := by decide
  stopped _ := ⟨rfl, rfl, rfl⟩
  running := nofun

theorem disable (h : ScannerFits sc t) (t' : LineTable) : ScannerFits sc.disable t' where
  keys := allKeysUp_fits _ _ _
  rows := Nat.zero_le 8
  columns := Nat.zero_le 8
  settings := h.settings
  pass := nofun
  timer := ⟨nofun, nofun⟩
  stopped _ := ⟨rfl, rfl, rfl⟩
  running := nofun

/-- An enable takes the lines of the map beside it, at most eight for each index range (R99, R102). -/
theorem enable (h : ScannerFits sc t) : ScannerFits (sc.enable t) t where
  keys := allKeysUp_fits _ _ _
  rows := rowLines_length_le t _
  columns := columnLines_length_le t _
  settings := h.settings
  pass := nofun
  timer := ⟨fun _ => rfl, fun _ => rfl⟩
  stopped := nofun
  running _ := ⟨rfl, rfl, ofFn_get (contactLine? t)⟩

/-- While the scanner is stopped every key is UP: there is no matrix (R101, R103). -/
theorem keysUp (h : ScannerFits sc t) (hs : sc.enabled = false) (k : Fin 64) : sc.keys.get k = .up := by
  obtain ⟨hrows, -, -⟩ := h.stopped hs
  exact h.keys.outside k (by simp [inMatrix, hrows])

/-- New settings find every key UP, so that no count passes a new D (R115). -/
theorem writeSettings (h : ScannerFits sc t) (hs : sc.enabled = false) {interval debounce : Byte}
    (hset : ScanSettingsFit interval debounce) : ScannerFits { sc with interval := interval, debounce := debounce } t :=
  { h with
    keys := { h.keys with counts := fun k => by rw [h.keysUp hs k]; rfl }
    settings := hset
    running := fun he => ⟨(h.running he).rows, (h.running he).columns, (h.running he).contacts⟩ }

/-- While the scanner is stopped the line map may change (R94). -/
theorem withEntries (h : ScannerFits sc t) (hs : sc.enabled = false) (t' : LineTable) : ScannerFits sc t' :=
  { h with running := fun he => absurd he (by simp [hs]) }

/-! ## Passes (R105 to R107) -/

/-- A pass is made by an enabled scanner alone. -/
theorem enabled_of_pass (h : ScannerFits sc t) {p : Pass} (hp : sc.pass = some p) : sc.enabled = true := by
  by_contra hs
  obtain ⟨-, -, hnone⟩ := h.stopped (by simpa using hs)
  simp [hp] at hnone

/-- A running scanner's pass may stand at any column up to C, and its keys in any state the debounce rules allow. -/
theorem inPass (h : ScannerFits sc t) (he : sc.enabled = true) {keys : KeyTable} {pass : Option Pass} {timer : Option Nat}
    (hkeys : KeysFit sc.rowLines.length sc.columnLines.length sc.debounce.toNat keys)
    (hpass : ∀ p ∈ pass, p.column ≤ sc.columnLines.length) (htimer : timer.isSome = true) :
    ScannerFits { sc with keys := keys, pass := pass, passTimer := timer } t :=
  { h with
    keys := hkeys
    pass := hpass
    timer := ⟨fun _ => he, fun _ => htimer⟩
    stopped := fun hs => absurd he (by simp [show sc.enabled = false from hs])
    running := fun _ => ⟨(h.running he).rows, (h.running he).columns, (h.running he).contacts⟩ }

theorem startPass (h : ScannerFits sc t) (he : sc.enabled = true) : ScannerFits sc.startPass t :=
  h.inPass he h.keys (by simp) rfl

/-- The column after one that is read is at most C (R106). -/
theorem settleColumn (h : ScannerFits sc t) {p : Pass} (hp : sc.pass = some p) (hc : p.column < sc.columnLines.length)
    (closed : BitVec 64) : ScannerFits { sc with pass := some { column := p.column + 1, closed := closed } } t :=
  have he := h.enabled_of_pass hp
  h.inPass he h.keys (by simpa using hc) (h.timer.mpr he)

theorem completePass (h : ScannerFits sc t) {p : Pass} (hp : sc.pass = some p) :
    ScannerFits { sc with keys := (evaluateKeys sc p.closed).keys, pass := none } t :=
  have he := h.enabled_of_pass hp
  h.inPass he (evaluateKeys_fits p.closed h.keys) nofun (h.timer.mpr he)

end ScannerFits

end Sys2Proof.Machine
end

section
/-! Every operation of the block keeps the scanner's invariant, and so does every step. -/

namespace Sys2Proof.Machine

/-- If the scanner and the line map fit in `s`, they fit in `t`. -/
def KeepsScanner (s t : State) : Prop :=
  ScannerFits s.scanner s.lines.entries → ScannerFits t.scanner t.lines.entries

namespace KeepsScanner

theorem refl (s : State) : KeepsScanner s s := id

/-- The invariant hangs on the scanner and the line map's entries alone. -/
theorem same {s t : State} (hs : t.scanner = s.scanner) (hl : t.lines = s.lines) : KeepsScanner s t := by
  unfold KeepsScanner
  rw [hs, hl]
  exact id

theorem trans {s t u : State} (h : KeepsScanner s t) (h' : KeepsScanner t u) : KeepsScanner s u := h' ∘ h

theorem ite {s t u : State} {c : Prop} [Decidable c] (h : c → KeepsScanner s t) (h' : ¬c → KeepsScanner s u) :
    KeepsScanner s (if c then t else u) := by
  split
  · exact h ‹_›
  · exact h' ‹_›

/-- What acts on a condition only, and then keeps the invariant, keeps it. -/
theorem iteSelf {s t : State} {c : Prop} [Decidable c] (h : c → KeepsScanner s t) : KeepsScanner s (if c then t else s) :=
  ite h fun _ => refl s

theorem foldl {α : Type} {f : State → α → State} (h : ∀ s x, KeepsScanner s (f s x)) (xs : List α) (s : State) :
    KeepsScanner s (xs.foldl f s) := by
  induction xs generalizing s with
  | nil => exact refl s
  | cons x xs ih => exact (h s x).trans (ih _)

/-! ## The queue, the contacts and the engine -/

theorem enqueueOnly (b : ReportBody) (s : State) : KeepsScanner s (enqueueOnly b s) := by
  rw [enqueueOnly_eq]
  exact refl s

theorem enqueueContact (i : Fin 8) (active level : Bool) (s : State) : KeepsScanner s (enqueueContact i active level s) := by
  rw [enqueueContact_eq]
  exact refl s

theorem contactRemovals (rs : List Report) (s : State) : KeepsScanner s (contactRemovals rs s) := by
  induction rs generalizing s with
  | nil => exact refl s
  | cons r rs ih =>
    unfold Machine.contactRemovals
    split
    · refine trans ?_ (ih _)
      rw [contactRemoval_eq]
      exact refl s
    all_goals exact ih s

theorem ackPair (position seq : Byte) (s : State) : KeepsScanner s (ackPair position seq s) := by
  refine iteSelf fun _ => ?_
  unfold acknowledge
  split
  · exact refl s
  · exact fun h => contactRemovals _ (s.withQueue _) h

theorem ackList (p : Payload) (s : State) : KeepsScanner s (ackList p s) :=
  ((ackPair _ _ s).trans (ackPair _ _ _)).trans (ackPair _ _ _)

theorem offer (tag : Byte) (s : State) : KeepsScanner s (offer tag s).1 := by
  unfold Machine.offer
  split
  · split <;> exact refl s
  · exact refl s

theorem advanceChannel (ch : Fin 16) (s : State) : KeepsScanner s (advanceChannel ch s) := by
  rw [advanceChannel_eq]
  exact refl s

theorem applyTake (t : TakeEntry) (v : TakeValue) (s : State) : KeepsScanner s (applyTake t v s) := by
  unfold Machine.applyTake
  split <;> exact refl s

theorem dataSlot (index : Nat) (p : Payload) (s : State) : KeepsScanner s (dataSlot index p s) := by
  unfold Machine.dataSlot
  split
  · split
    · exact ite (fun _ => refl s) fun _ => applyTake _ _ (storeLastValue _ _ s)
    all_goals exact refl s
  · exact refl s

/-! ## Headers and the frame event -/

theorem mapFrameEvent (s : State) : KeepsScanner s (mapFrameEvent s) := by
  rw [mapFrameEvent_eq]
  exact refl s

theorem queueFrameEvent (s : State) : KeepsScanner s (queueFrameEvent s) := by
  rw [queueFrameEvent_eq]
  exact refl s

theorem frameEvent (s : State) : KeepsScanner s (frameEvent s) := by
  have chosen : KeepsScanner s (tookChoice s) := refl s
  refine ite (fun _ => ite (fun _ => ?_) fun _ => ?_) fun _ => (mapFrameEvent s).trans (queueFrameEvent _)
  · exact (chosen.trans (mapFrameEvent _)).trans (queueFrameEvent _)
  · exact (chosen.trans (queueFrameEvent _)).trans (mapFrameEvent _)

theorem becomeUnaddressed (s : State) : KeepsScanner s (becomeUnaddressed s) := by
  rw [becomeUnaddressed_eq]
  exact refl s

theorem becomeReady (position epoch : Byte) (s : State) : KeepsScanner s (becomeReady position epoch s) := by
  rw [becomeReady_eq]
  exact refl s

theorem enumerate (hop epoch : Byte) (s : State) : KeepsScanner s (enumerate hop epoch s).1 := by
  unfold Machine.enumerate
  split
  · exact refl s
  · split
    · exact becomeReady hop epoch s
    · exact becomeUnaddressed s

theorem returnFromFallback (s : State) : KeepsScanner s (returnFromFallback s) := by
  have chosen : KeepsScanner s (resumeLoop (tookChoice s)) := refl s
  have resumed : KeepsScanner s (resumeLoop s) := refl s
  refine ite (fun _ => ite (fun _ => ?_) fun _ => ?_) fun _ => (resumed.trans (enqueueOnly _ _)).trans (frameEvent _)
  · exact (chosen.trans (enqueueOnly _ _)).trans (frameEvent _)
  · exact (chosen.trans (frameEvent _)).trans (enqueueOnly _ _)

theorem ownEpochFrame (s : State) : KeepsScanner s (ownEpochFrame s) := by
  unfold Machine.ownEpochFrame
  split
  · exact refl s
  · exact frameEvent s
  · exact fun h => frameEvent (s.withNode _) h
  · exact returnFromFallback s

theorem normalHeader (epoch : Byte) (s : State) : KeepsScanner s (normalHeader epoch s) :=
  ite (fun _ => refl s) fun _ => ite (fun _ => ownEpochFrame s) fun _ => becomeUnaddressed s

theorem headerArrivalAt (k : FrameKind) (h : HeaderBytes) (s : State) : KeepsScanner s (headerArrivalAt k h s).1 := by
  cases k with
  | normal => exact normalHeader h.epoch (queueHeader h.cycle s)
  | enumerate => exact enumerate h.hop h.epoch (queueHeader h.cycle s)

theorem headerArrives (h : HeaderBytes) (s : State) : KeepsScanner s (headerArrives h s) := by
  unfold Machine.headerArrives
  split
  · split
    · exact refl s
    · exact refl s
    · exact headerArrivalAt _ h (setFrame _ (goodHeader (bump ctrGoodFrames s)))
  · exact refl s
  · exact refl s

theorem closeFrame (s : State) : KeepsScanner s (closeFrame s) := by
  unfold Machine.closeFrame
  split
  · exact refl s
  · exact refl s
  · exact iteSelf fun _ => refl s
  · exact refl s

theorem startMarkArrives (tail : List Byte) (s : State) : KeepsScanner s (startMarkArrives tail s) := closeFrame s

theorem endMarkArrives (tail : List Byte) (s : State) : KeepsScanner s (endMarkArrives tail s) := closeFrame s

/-! ## START, STOP and the resets -/

/-- A START enables a scanner that is stopped, from the line map it validated (R27, R102). -/
theorem startNode (s : State) : KeepsScanner s (startNode s) := by
  have started : KeepsScanner s (startScanner s) := ite (fun _ => refl s) fun _ h => h.enable
  exact started

theorem disableScanner (clearHeld : Bool) (s : State) : KeepsScanner s (disableScanner clearHeld s) := fun h => h.disable _

theorem stopNode (s : State) : KeepsScanner s (stopNode s) := by
  have left : KeepsScanner s (leaveLoop s) := by
    rw [leaveLoop_eq]
    exact refl s
  exact left.trans (disableScanner false _)

/-- BLOCK RESET naming SCANNER disables it, and no other block's reset touches it (R103, R187). -/
theorem blockReset (b : BlockSet) (s : State) : KeepsScanner s (blockReset b s) := by
  rw [blockReset_eq]
  intro h
  dsimp only
  split
  · exact h.disable _
  · exact h

theorem settleReset (s : State) : KeepsScanner s (settleReset s) := iteSelf fun _ _ => .reset _

/-! ## Requests -/

/-- LINE WRITE finds the scanner stopped (R94). -/
theorem reqLineWrite (a : Args) (s : State) : (reqLineWrite a s).Takes fun _ t => KeepsScanner s t := by
  refine require_takes fun hgate => withIndex_takes fun _ _ => withValue_takes fun _ _ h => h.withEntries ?_ _
  simp only [Bool.and_eq_true, Bool.not_eq_true'] at hgate
  exact hgate.2

/-- SCAN SET finds the scanner stopped, and its settings in range (R115, R131). -/
theorem reqScanSet (a : Args) (s : State) : (reqScanSet a s).Takes fun _ t => KeepsScanner s t := by
  have matrix : (reqScanSetMatrix a s).Takes fun _ t => KeepsScanner s t := by
    refine require_takes fun hrange => require_takes fun hstopped h => h.writeSettings (by simpa using hstopped) ?_
    simp only [Bool.and_eq_true, decide_eq_true_eq] at hrange
    obtain ⟨⟨⟨iLow, iHigh⟩, dLow⟩, dHigh⟩ := hrange
    exact ⟨⟨iLow, iHigh⟩, ⟨dLow, dHigh⟩⟩
  have contact : (reqScanSetContact a s).Takes fun _ t => KeepsScanner s t :=
    withIndex_takes fun _ _ => withValue_takes fun _ _ => withValue_takes fun _ _ => require_takes fun _ => refl s
  exact ite_takes matrix (ite_takes contact trivial)

/-- Of the requests, START, STOP, BLOCK RESET, LINE WRITE and SCAN SET touch the scanner or the lines (9.11). -/
theorem serve (r : Request) (v : PinView) (a : Args) (s : State) : (serve r v a s).Takes fun _ t => KeepsScanner s t := by
  have kept : KeepsScanner s s := refl s
  cases r with
  | start =>
    refine require_takes fun _ => ?_
    split
    · trivial
    · exact startNode s
  | stop => exact require_takes fun _ => stopNode s
  | blockReset => exact withValue_takes fun b _ => blockReset b s
  | lineWrite => exact reqLineWrite a s
  | scanSet => exact reqScanSet a s
  | mapWrite => exact withIndex_takes fun _ _ => withValue_takes fun _ _ => require_takes fun _ => kept
  | mapCommit =>
    refine require_takes fun _ => ?_
    split
    · trivial
    · exact kept
  | info => exact ite_takes kept (ite_takes kept trivial)
  | status => exact ite_takes kept (ite_takes kept (ite_takes kept trivial))
  | counter => exact withIndex_takes fun n _ => withValue_takes fun clear _ => iteSelf (t := clearCounter n s) fun _ => kept
  | loopSet => exact require_takes fun _ => require_takes fun _ => kept
  | nodeReset | loopGet | resync | flush | contactsRead => exact kept
  | mapRead => exact withIndex_takes fun _ _ => withValue_takes fun _ _ => ite_takes kept kept
  | scanGet => exact ite_takes kept (ite_takes (withIndex_takes fun _ _ => kept) trivial)
  | lineRead | keysRead | effectRead | segmentRead => exact withIndex_takes fun _ _ => kept
  | effectWrite => exact withIndex_takes fun _ _ => withValue_takes fun _ _ => require_takes fun _ => kept
  | segmentWrite => exact withIndex_takes fun _ _ => require_takes fun _ => kept
  | channelSet | channelGet => exact withIndex_takes fun _ _ => withValue_takes fun _ _ => kept
  | channelDrive =>
    exact withIndex_takes fun _ _ => withValue_takes fun _ _ => withValue_takes fun _ _ => withValue_takes fun _ _ => kept
  | unknown _ => trivial

theorem addressed (position token : Byte) (r : Request) (v : PinView) (a : Args) (s : State) :
    KeepsScanner s (addressed position token r v a s).1 := by
  unfold Machine.addressed
  split
  · exact refl s
  · split
    · exact refl s
    · rename_i st d t hv
      have ht := serve r v a s
      rw [hv] at ht
      exact trans ht (ite (fun _ => refl t) fun _ => refl t)

theorem broadcast (r : Request) (s : State) : KeepsScanner s (broadcast r s) := by
  unfold Machine.broadcast
  split
  · unfold broadcastStart
    split
    · split
      · exact refl s
      · exact startNode s
    all_goals exact refl s
  · unfold broadcastStop
    split
    · exact stopNode s
    all_goals exact refl s
  · exact refl s
  · exact refl s

theorem mgmtSlot (tag token : Byte) (r : Request) (v : PinView) (a : Args) (s : State) :
    KeepsScanner s (mgmtSlot tag token r v a s).1 := by
  unfold Machine.mgmtSlot
  split
  · split
    iterate 3 exact broadcast r s
    exact refl s
  · split
    · split
      iterate 2 exact addressed tag token r v a s
      all_goals exact refl s
    · exact refl s

/-! ## Slots -/

theorem dispatchSlot (k : SlotKind) (index : Nat) (b : SlotBytes) (v : PinView) (s : State) :
    KeepsScanner s (dispatchSlot k index b v s).1 := by
  cases k with
  | void | mgmtReply => exact refl s
  | data =>
    simp only [Machine.dispatchSlot]
    split
    · exact dataSlot index b.payload s
    · exact refl s
  | container =>
    simp only [Machine.dispatchSlot]
    split
    · exact offer b.tag s
    · exact refl s
  | ackList =>
    simp only [Machine.dispatchSlot]
    split
    · exact ackList b.payload s
    · exact refl s
  | mgmt => exact mgmtSlot _ _ _ v _ s

theorem judgeSlot (b : SlotBytes) (v : PinView) (kind : FrameKind) (index : Nat) (s : State) :
    KeepsScanner s (judgeSlot b v kind index s).1 := by
  unfold Machine.judgeSlot
  split
  · exact refl s
  · split
    · exact refl s
    · split
      · exact dispatchSlot _ index b v s
      · exact refl s

theorem slotArrives (b : SlotBytes) (v : PinView) (s : State) : KeepsScanner s (slotArrives b (Machine.judgeSlot b v) s) := by
  unfold Machine.slotArrives
  split
  · exact ite (fun _ => judgeSlot b v _ _ s) fun _ => refl s
  · exact ite (fun _ => refl s) fun _ => refl s
  · exact refl s
  · exact refl s

/-! ## Passes -/

theorem settleColumn (v : PinView) {p : Pass} {s : State} (hp : s.scanner.pass = some p)
    (hc : p.column < s.scanner.columnLines.length) : KeepsScanner s (settleColumn v p s) :=
  fun h => h.settleColumn hp hc _

/-- The completion writes the evaluated keys and ends the pass; its reports reach the queue and the contacts alone (R107, R113). -/
theorem completePass (v : PinView) {p : Pass} {s : State} (hp : s.scanner.pass = some p) :
    KeepsScanner s (completePass v p s) := by
  have evaluated : KeepsScanner s
      (s.withScanner { s.scanner with keys := (evaluateKeys s.scanner p.closed).keys, pass := none }) :=
    fun h => h.completePass hp
  have reported (t : State) (r : PassReport) : KeepsScanner t (takePassReport t r) := by
    cases r with
    | key b => exact enqueueOnly b t
    | contact i active level => exact enqueueContact i active level t
  exact fun h => foldl reported _ ((State.withContacts _ _).withFreeIndex _) (evaluated h)

/-! ## Commands -/

theorem exec_supply {c : Instr} (h : isSupplyCommand c = true) {s t : State} (he : exec c s = .next t) : KeepsScanner s t := by
  cases c with
  | powerOnReset | powerLoss =>
    obtain rfl := Host.Outcome.next.inj he
    exact fun _ => .reset _
  | resetReleased | startUpComplete =>
    obtain rfl := Host.Outcome.next.inj he
    exact ite (fun _ => refl _) fun _ => refl _
  | pinReset pulse =>
    obtain ⟨rfl | rfl, -⟩ | rfl | rfl | ⟨rfl, -⟩ := execPinReset_cases he
    · exact fun _ => .reset _
    · exact fun _ => .reset _
    all_goals exact same rfl rfl
  | _ => cases h

/-- What every command but those of the supply does to a node in operation keeps the scanner's invariant. -/
theorem exec_operating {c : Instr} (h : isSupplyCommand c = false) :
    ∃ f : State → State, (∀ s, KeepsScanner s (f s)) ∧ ∀ s, exec c s = .next (whenOperating f s) := by
  cases hr : c.request? with
  | some r =>
    obtain ⟨b, v, hslot⟩ := exec_request_eq_slot hr
    exact ⟨_, fun s => (settleReset s).trans (slotArrives b v _), hslot⟩
  | none =>
    cases c with
    | startMark tail => exact ⟨_, fun s => (settleReset s).trans (startMarkArrives tail _), fun _ => rfl⟩
    | endMark tail => exact ⟨_, fun s => (settleReset s).trans (endMarkArrives tail _), fun _ => rfl⟩
    | headerArrival bytes => exact ⟨_, fun s => (settleReset s).trans (headerArrives bytes _), fun _ => rfl⟩
    | slotArrival b v => exact ⟨_, fun s => (settleReset s).trans (slotArrives b v _), fun _ => rfl⟩
    | nodeResetTakesPlace => exact ⟨_, settleReset, fun _ => rfl⟩
    | markTimerExpiry =>
      refine ⟨_, fun s => ?_, fun _ => rfl⟩
      rw [markTimerExpires_eq]
      exact refl s
    | silenceTimerExpiry | outageTimerStep | timeoutGoBack =>
      refine ⟨_, fun s => ?_, fun _ => rfl⟩
      exact iteSelf fun _ => refl s
    | commitCarriedOut => exact ⟨_, fun s => iteSelf fun _ => mapFrameEvent s, fun _ => rfl⟩
    | passStart =>
      refine ⟨_, fun s => iteSelf fun hstart hfits => hfits.startPass ?_, fun _ => rfl⟩
      rw [Bool.and_eq_true] at hstart
      exact hstart.1
    | columnSettled v =>
      refine ⟨_, fun s => ?_, fun _ => rfl⟩
      split
      · rename_i hp
        exact iteSelf fun hc => settleColumn v hp hc
      · exact refl s
    | passCompletion v =>
      refine ⟨_, fun s => ?_, fun _ => rfl⟩
      split
      · rename_i hp
        exact ite (fun _ => refl s) fun _ => completePass v hp
      · exact refl s
    | indicatorTick => exact ⟨tickChannels, foldl (fun s ch => advanceChannel ch s) _, fun _ => rfl⟩
    | glideEnd ch | segmentEnd ch => exact ⟨_, fun s => iteSelf fun _ => advanceChannel ch s, fun _ => rfl⟩
    | pulseWidthPeriod => exact ⟨beginPeriod, refl, fun _ => rfl⟩
    | powerOnReset | pinReset | resetReleased | startUpComplete | powerLoss => cases h
    | _ => cases hr

theorem ofExec (c : Instr) {s t : State} (he : exec c s = .next t) : KeepsScanner s t := by
  cases hc : isSupplyCommand c with
  | true => exact exec_supply hc he
  | false =>
    obtain ⟨f, hf, hexec⟩ := exec_operating hc
    obtain rfl := Host.Outcome.next.inj ((hexec s).symm.trans he)
    exact iteSelf fun _ => hf s

end KeepsScanner

/-- Settles O59: the scanner's invariant is its keys, lines, settings and pass in their ranges, which every command keeps. -/
theorem stepKeepsTheScanner : Obligations.StepKeepsTheScanner := by
  refine step_keeps (P := ScannerInv) (fun _ _ h => h) fun c s t hs he => ?_
  rw [scannerInv_iff] at hs ⊢
  exact KeepsScanner.ofExec c he hs

end Sys2Proof.Machine
end

section
/-! The completion of a pass: its key reports, the merge with the contacts' reports, and what the queue and the contacts make of each. -/

namespace Sys2Proof.Machine

/-! ## The key reports (R113) -/

/-- A report of key `k` that tells the state the key is left in. -/
def TellsKey (keys : KeyTable) (k : Fin 64) (b : ReportBody) : Prop :=
  (b = .keyDown k ∧ keys.get k = .down) ∨ (b = .keyUp k ∧ keys.get k = .up)

theorem TellsKey.source {keys : KeyTable} {k : Fin 64} {b : ReportBody} (h : TellsKey keys k b) : b.source.toNat = k.val := by
  have hbyte : (natByte k.val).toNat = k.val := by
    rw [natByte, BitVec.toNat_ofNat]
    omega
  rcases h with ⟨rfl, -⟩ | ⟨rfl, -⟩ <;> exact hbyte

/-- When the keys below `n` have had their turn: the reports are in strictly ascending key code, each of a key below `n` and telling
the state that key is in. -/
structure ReportsAscend (n : Nat) (e : Evaluation) : Prop where
  ascending : e.reports.Pairwise fun earlier later => earlier.source.toNat < later.source.toNat
  told : ∀ b ∈ e.reports, ∃ k : Fin 64, k.val < n ∧ TellsKey e.keys k b

namespace ReportsAscend

variable {k : Fin 64} {e : Evaluation}

theorem passed (h : ReportsAscend k.val e) : ReportsAscend (k.val + 1) e where
  ascending := h.ascending
  told b hb := by
    obtain ⟨j, hj, htells⟩ := h.told b hb
    exact ⟨j, by omega, htells⟩

/-- A key's record does not touch the keys below it, nor what their reports tell. -/
theorem recorded (h : ReportsAscend k.val e) (x : KeyState) : ReportsAscend k.val (recordKey k x e) where
  ascending := h.ascending
  told b hb := by
    obtain ⟨j, hj, htells⟩ := h.told b hb
    have hkj : k ≠ j := by
      rintro rfl
      omega
    refine ⟨j, hj, ?_⟩
    rwa [TellsKey, recordKey, setAt_get_of_ne e.keys x hkj]

/-- A key's report follows those of the keys below it. -/
theorem reported (h : ReportsAscend k.val e) {b : ReportBody} (hb : TellsKey e.keys k b) :
    ReportsAscend (k.val + 1) { e with reports := e.reports ++ [b] } where
  ascending := by
    refine List.pairwise_append.mpr ⟨h.ascending, List.pairwise_singleton _ b, fun earlier hearlier later hlater => ?_⟩
    obtain rfl := List.mem_singleton.mp hlater
    obtain ⟨j, hj, htells⟩ := h.told earlier hearlier
    rwa [htells.source, hb.source]
  told c hc := by
    rcases List.mem_append.mp hc with hold | hnew
    · exact h.passed.told c hold
    · obtain rfl := List.mem_singleton.mp hnew
      exact ⟨k, by omega, hb⟩

theorem turn {D : Nat} {e' : Evaluation} (h : ReportsAscend k.val e) (hturn : KeyTurn D k e e') :
    ReportsAscend (k.val + 1) e' := by
  cases hturn with
  | kept => exact h.passed
  | recorded x => exact (h.recorded x).passed
  | accepted => exact (h.recorded .down).reported (.inl ⟨rfl, setAt_get_self _ _ _⟩)
  | released => exact (h.recorded .up).reported (.inr ⟨rfl, setAt_get_self _ _ _⟩)

end ReportsAscend

theorem evaluateKeys_reportsAscend (sc : Scanner) (closed : BitVec 64) : ReportsAscend 64 (evaluateKeys sc closed) :=
  evaluateKeys_of_turns (P := ReportsAscend) ⟨.nil, nofun⟩ (fun _ _ h => h.passed) fun _ _ _ _ hturn h => h.turn hturn

/-- A key of the matrix is evaluated in its turn, and any other is passed over (R107, R112). -/
theorem evaluateBelow_succ_eq (sc : Scanner) (closed : BitVec 64) (k : Fin 64) :
    evaluateBelow sc closed (k.val + 1) =
      if k.val / 8 < sc.rowLines.length ∧ k.val % 8 < sc.columnLines.length then
        evaluateKey sc.debounce.toNat (closed.getLsbD k.val) k (evaluateBelow sc closed k.val)
      else evaluateBelow sc closed k.val := by
  rw [evaluateBelow_succ, evaluateNext]
  exact if_congr (inMatrix_iff _ _ k) rfl rfl

/-! ## The merge (R113; entry 3) -/

/-- The body of a key's report. -/
def PassReport.keyBody? : PassReport → Option ReportBody
  | .key b => some b
  | .contact _ _ _ => none

/-- Whether a report is a contact's. -/
def PassReport.isContact : PassReport → Bool
  | .key _ => false
  | .contact _ _ _ => true

/-- A merge keeps the order of the first producer: what reads nothing from the second reads from the merge what it reads from the first. -/
theorem filterMap_mergeReports {α : Type} {f : PassReport → Option α} (bs : List Bool) (xs : List PassReport)
    {ys : List PassReport} (hy : ∀ y ∈ ys, f y = none) : (mergeReports bs xs ys).filterMap f = xs.filterMap f := by
  fun_induction mergeReports bs xs ys with
  | case1 xs ys => rw [List.filterMap_append, List.filterMap_eq_nil_iff.mpr hy, List.append_nil]
  | case2 _ _ ys => exact List.filterMap_eq_nil_iff.mpr hy
  | case3 => rfl
  | case4 _ x xs y ys ih => rw [List.filterMap_cons, ih hy, List.filterMap_cons]
  | case5 _ _ x xs y ys _ ih => rw [List.filterMap_cons_none (hy y (by simp)), ih fun z hz => hy z (by simp [hz])]

/-- A merge keeps the order of the second producer. -/
theorem filter_mergeReports {p : PassReport → Bool} (bs : List Bool) {xs ys : List PassReport}
    (hx : ∀ x ∈ xs, p x = false) (hy : ∀ y ∈ ys, p y = true) : (mergeReports bs xs ys).filter p = ys := by
  fun_induction mergeReports bs xs ys with
  | case1 xs ys =>
    rw [List.filter_append, List.filter_eq_nil_iff.mpr fun x h => by simp [hx x h], List.filter_eq_self.mpr hy, List.nil_append]
  | case2 _ _ ys => exact List.filter_eq_self.mpr hy
  | case3 => exact List.filter_eq_nil_iff.mpr fun x h => by simp [hx x h]
  | case4 _ x xs y ys ih => rw [List.filter_cons_of_neg (by simp [hx x]), ih (fun z hz => hx z (by simp [hz])) hy]
  | case5 _ _ x xs y ys _ ih => rw [List.filter_cons_of_pos (hy y (by simp)), ih hx fun z hz => hy z (by simp [hz])]

theorem contactReport?_isContact {i : Fin 8} {old new : Contact} {r : PassReport} (h : contactReport? i old new = some r) :
    r.isContact = true := by
  unfold contactReport? at h
  split at h
  · cases h
    rfl
  · split at h <;> cases h
    rfl

theorem keyBody?_of_isContact {r : PassReport} (h : r.isContact = true) : r.keyBody? = none := by
  cases r with
  | key b => cases h
  | contact i active level => rfl

/-- The contacts' reports of a pass, in ascending index (R113, R124, R125). -/
def contactReports (old new : Vector Contact 8) : List PassReport :=
  (List.finRange 8).filterMap fun i => contactReport? i (old.get i) (new.get i)

theorem contactReports_isContact {old new : Vector Contact 8} {r : PassReport} (h : r ∈ contactReports old new) :
    r.isContact = true := by
  obtain ⟨i, -, hi⟩ := List.mem_filterMap.mp h
  exact contactReport?_isContact hi

/-- What a pass hands the queue: both producers' reports, each in its own order (R113). -/
theorem mergeReports_orders (bs : List Bool) (bodies : List ReportBody) (old new : Vector Contact 8) :
    let merged := mergeReports bs (bodies.map .key) (contactReports old new)
    merged.filterMap PassReport.keyBody? = bodies ∧ merged.filter PassReport.isContact = contactReports old new := by
  refine ⟨?_, filter_mergeReports bs (fun x hx => ?_) fun y hy => contactReports_isContact hy⟩
  · rw [filterMap_mergeReports bs _ fun y hy => keyBody?_of_isContact (contactReports_isContact hy), List.filterMap_map]
    exact List.filterMap_some
  · obtain ⟨b, -, rfl⟩ := List.mem_map.mp hx
    rfl

/-! ## The queue and the contacts (R124, R125) -/

theorem enqueueContact_appended (i : Fin 8) (active level : Bool) {s : State} (h : s.queue.ordinaryCount < 31) :
    enqueueContact i active level s =
      setContact i
        { s.contacts.get i with
          queued := (s.contacts.get i).queued + 1
          held := (s.contacts.get i).held || level } (enqueue (.contact i active) s).1 := by
  unfold enqueueContact
  rw [enqueue_appended _ h]
  rfl

theorem enqueueContact_discarded (i : Fin 8) (active level : Bool) {s : State} (h : 31 ≤ s.queue.ordinaryCount) :
    enqueueContact i active level s = (enqueue (.contact i active) s).1 := by
  unfold enqueueContact
  rw [enqueue_discarded _ h]

/-- The contacts after their samples of a pass (R121 to R123). -/
def sampledContacts (v : PinView) (s : State) : Vector Contact 8 :=
  Vector.ofFn fun i => (s.contacts.get i).sampled (rawSample v s i)

/-- A completed pass: the evaluated keys and the sampled contacts, and a merge of the reports, by whatever open choices it takes (R107,
R113, R121; entry 3). -/
theorem completePass_eq (v : PinView) (p : Pass) (s : State) : ∃ (bs : List Bool) (taken : Nat),
    completePass v p s =
      (mergeReports bs ((evaluateKeys s.scanner p.closed).reports.map .key)
        (contactReports s.contacts (sampledContacts v s))).foldl takePassReport
          { s with
            scanner := { s.scanner with keys := (evaluateKeys s.scanner p.closed).keys, pass := none }
            contacts := sampledContacts v s
            freeIndex := s.freeIndex + taken } := ⟨_, _, rfl⟩

/-- A row of PASS_COMPLETION whose last column has been read completes the pass (R107). -/
theorem execPassCompletion_complete {s : State} {p : Pass} (hs : s.phase = .operating) (hp : s.scanner.pass = some p)
    (hc : s.scanner.columnLines.length ≤ p.column) (v : PinView) : execPassCompletion v s = .next (completePass v p s) := by
  unfold execPassCompletion
  rw [whenOperating_of hs]
  simp only [hp, if_neg (Nat.not_lt.mpr hc)]

/-- Settles O24: the merge keeps both orders, the evaluation is its 64 turns in order, and each report is one enqueue. -/
theorem passCompletionHandsOverItsReports : Obligations.PassCompletionHandsOverItsReports := by
  refine ⟨fun s v p hs hp hc => ?_, fun sc closed => ?_, fun sc closed => ?_, fun s v i => ⟨?_, ?_, ?_⟩, fun s => ⟨fun _ => rfl, ?_⟩⟩
  · obtain ⟨bs, taken, hpass⟩ := completePass_eq v p s
    obtain ⟨hkeys, hcontacts⟩ :=
      mergeReports_orders bs (evaluateKeys s.scanner p.closed).reports s.contacts (sampledContacts v s)
    refine ⟨_, taken, hkeys, hcontacts, (execPassCompletion_complete hs hp hc v).trans ?_⟩
    exact congrArg Host.Outcome.next hpass
  · obtain ⟨ascending, told⟩ := evaluateKeys_reportsAscend sc closed
    refine ⟨ascending, fun b hb => ?_⟩
    obtain ⟨k, -, htells⟩ := told b hb
    exact htells.imp (fun h => ⟨k, h⟩) fun h => ⟨k, h⟩
  · exact ⟨evaluateBelow sc closed, evaluateBelow_zero sc closed, evaluateBelow_succ_eq sc closed, evaluateKeys_eq sc closed⟩
  · exact fun h => rawSample_of_none h v
  · exact fun l h => (rawSample_of_line h v).trans (if_pos rfl)
  · exact fun l h => (rawSample_of_line h v).trans (if_neg nofun)
  · refine fun i active level => ⟨fun h => (enqueueContact_appended i active level h).trans ?_, enqueueContact_discarded i active level⟩
    rw [enqueue_appended _ h]
    cases level <;> simp only [Bool.or_true, Bool.or_false] <;> rfl

end Sys2Proof.Machine
end

section
/-! What each line entry makes of its pin, and LINE WRITE and LINE READ. -/

namespace Sys2Proof.Machine

/-! ## Pins (R89 to R92) -/

section
variable {s : State} {l : Line} (step : Fin 255)

theorem pinDrive_unused (h : s.lines.entries.get l = .unused) : pinDrive s l step = .highZ := by
  simp only [pinDrive, h]

theorem pinDrive_row {r : Fin 8} (h : s.lines.entries.get l = .row r) : pinDrive s l step = .pullUp := by
  simp only [pinDrive, h]

theorem pinDrive_column {r : Fin 8} (h : s.lines.entries.get l = .column r) :
    pinDrive s l step = if columnDriven s l then .low else .highZ := by
  simp only [pinDrive, h]

theorem pinDrive_contact {i : Fin 8} {p : Pull} {q : Polarity} (h : s.lines.entries.get l = .contact i p q) :
    pinDrive s l step = pullOut p := by
  simp only [pinDrive, h]

/-- An INDICATOR line is in its active sense for the first L steps of the period (R91). -/
theorem pinDrive_indicator {c : Fin 16} {d : Drive} {q : Polarity} (h : s.lines.entries.get l = .indicator c d q) :
    pinDrive s l step = indicatorOut d q (step.val < (s.lines.shown.get c).toNat) := by
  simp only [pinDrive, h]

end

/-- Between passes no column is driven (R89, R106). -/
theorem columnDriven_idle {s : State} (h : s.scanner.pass = none) (l : Line) : columnDriven s l = false := by
  simp only [columnDriven, h]

/-- In a pass the column being read is driven, and no other (R106). -/
theorem columnDriven_reading {s : State} {p : Pass} (h : s.scanner.pass = some p) (l : Line) :
    columnDriven s l = decide (s.scanner.columnLines[p.column]? = some l) := by
  simp only [columnDriven, h]

/-- The two senses of an INDICATOR line, by drive and polarity (R91). -/
theorem indicatorOut_eq (active : Prop) [Decidable active] :
    indicatorOut .pushPull .activeHigh active = (if active then .high else .low) ∧
    indicatorOut .pushPull .activeLow active = (if active then .low else .high) ∧
    indicatorOut .sinkOnly .activeLow active = (if active then .low else .highZ) ∧
    indicatorOut .sinkOnly .activeHigh active = (if active then .highZ else .low) ∧
    indicatorOut .sourceOnly .activeHigh active = (if active then .high else .highZ) ∧
    indicatorOut .sourceOnly .activeLow active = (if active then .highZ else .high) := by
  simp only [indicatorOut, decide_eq_true_eq, and_self]

/-- Settles O20: each function by its entry, a COLUMN by the pass, an INDICATOR by its sense, and the sensed level by what the pin does. -/
theorem pinsFollowTheirEntries : Obligations.PinsFollowTheirEntries := by
  refine ⟨fun s hs => congrArg Host.Outcome.next (whenOperating_of hs), fun s l step => ⟨pinDrive_unused step, fun _ => pinDrive_row step,
    fun r h hp => ?_, fun r p h hp => ?_, fun i q => ⟨pinDrive_contact step, pinDrive_contact step, pinDrive_contact step⟩, fun c => ?_,
    fun v hv => ?_⟩⟩
  · rw [pinDrive_column step h, columnDriven_idle hp]
    rfl
  · simp only [pinDrive_column step h, columnDriven_reading hp, decide_eq_true_eq]
  · obtain ⟨pushHigh, pushLow, sinkLow, sinkHigh, sourceHigh, sourceLow⟩ :=
      indicatorOut_eq (step.val < (s.lines.shown.get c).toNat)
    exact ⟨fun h => (pinDrive_indicator step h).trans pushHigh, fun h => (pinDrive_indicator step h).trans pushLow,
      fun h => (pinDrive_indicator step h).trans sinkLow, fun h => (pinDrive_indicator step h).trans sinkHigh,
      fun h => (pinDrive_indicator step h).trans sourceHigh, fun h => (pinDrive_indicator step h).trans sourceLow⟩
  · subst hv
    exact ⟨sensedHigh_of_high, sensedHigh_of_low, sensedHigh_of_pullUp, sensedHigh_of_pullDown, sensedHigh_of_highZ⟩

/-! ## LINE WRITE and LINE READ (R94, R95) -/

section
variable {a : Args} {s : State} {l : Line} (v : PinView)

theorem serve_lineWrite {e : LineEntry} (hs : s.node.state = .ready) (he : s.scanner.enabled = false) (hl : a.a0.toNat = l.val)
    (hx : lineEntryOf a.a1 a.a2 a.a3 a.a4 = some e) :
    serve .lineWrite v a s =
      .taken .ok { d0 := a.a0, d1 := e.function, d2 := e.index, d3 := e.option, d4 := e.polarity } (setLine l e s) := by
  simp only [serve, reqLineWrite, require, hs, he, decide_true, Bool.not_false, Bool.and_self, if_true, withIndex, finOf_of_eq hl,
    withValue, hx]

theorem serve_lineWrite_badValue (hs : s.node.state = .ready) (he : s.scanner.enabled = false) (hl : a.a0.toNat = l.val)
    (hx : lineEntryOf a.a1 a.a2 a.a3 a.a4 = none) : serve .lineWrite v a s = .refused .badValue noData := by
  simp only [serve, reqLineWrite, require, hs, he, decide_true, Bool.not_false, Bool.and_self, if_true, withIndex, finOf_of_eq hl,
    withValue, hx, refuse]

theorem serve_lineRead (hl : a.a0.toNat = l.val) :
    serve .lineRead v a s =
      .taken .ok
        { d0 := (s.lines.entries.get l).function, d1 := (s.lines.entries.get l).index, d2 := (s.lines.entries.get l).option,
          d3 := (s.lines.entries.get l).polarity, d4 := flagByte (sensedHigh s l v) } s := by
  simp only [serve, reqLineRead, withIndex, finOf_of_eq hl]

end

/-- Settles O45: each request by what the agent's catalogue makes of it. -/
theorem lineRequestsWriteAndRead : Obligations.LineRequestsWriteAndRead :=
  fun _ _ _ _ _ _ _ h hl =>
    ⟨fun _ hf hs he hx => row_taken .lineWrite h hf (serve_lineWrite noPins hs he hl hx),
      fun hf hs he hx => row_refused .lineWrite h hf (serve_lineWrite_badValue noPins hs he hl hx),
      fun v hf => row_taken .lineRead h hf (serve_lineRead v hl)⟩

end Sys2Proof.Machine
end

section
/-! The reading of a pass, column by column, and the debounce table of one key's evaluation. -/

namespace Sys2Proof.Machine

/-! ## The readings of one column (R89, R106) -/

/-- Whether row `r` has a line and that line is sensed low. -/
def rowSensedLow (v : PinView) (s : State) (r : Nat) : Bool :=
  match s.scanner.rowLines[r]? with
  | some l => !sensedHigh s l v
  | none => false

theorem rowSensedLow_lt {v : PinView} {s : State} {r : Nat} (h : rowSensedLow v s r = true) : r < s.scanner.rowLines.length := by
  by_contra hr
  simp [rowSensedLow, List.getElem?_eq_none (Nat.not_lt.mp hr)] at h

/-- The readings of a column set one bit for each row that is sensed low. -/
theorem columnReadings_eq (v : PinView) (c : Nat) (s : State) :
    columnReadings v c s =
      (List.range s.scanner.rowLines.length).foldl
        (fun acc r => if rowSensedLow v s r then acc ||| BitVec.twoPow 64 (r * 8 + c) else acc) 0 := by
  refine List.foldl_ext _ _ _ fun acc r _ => ?_
  unfold rowSensedLow
  cases s.scanner.rowLines[r]? with
  | none => rfl
  | some l => cases h : sensedHigh s l v <;> simp [h]

/-- Setting the bits of some numbers, one after the other, sets those bits and keeps the others. -/
theorem getLsbD_foldl_setBits (p : Nat → Bool) (bit : Nat → Nat) (k : Fin 64) (xs : List Nat) (acc : BitVec 64) :
    (xs.foldl (fun acc x => if p x then acc ||| BitVec.twoPow 64 (bit x) else acc) acc).getLsbD k.val =
      (acc.getLsbD k.val || xs.any fun x => p x && bit x = k.val) := by
  induction xs generalizing acc with
  | nil => simp
  | cons x xs ih =>
    rw [List.foldl_cons, ih, List.any_cons, ← Bool.or_assoc]
    congr 1
    cases hp : p x with
    | false => simp
    | true =>
      have hbit : bit x = k.val → bit x < 64 := fun h => h ▸ k.isLt
      rw [if_pos rfl, BitVec.getLsbD_or, BitVec.getLsbD_twoPow, Bool.true_and]
      congr 1
      simpa using hbit

/-- Key code r × 8 + c is read closed in column c exactly where row r is sensed low (R101, R106). -/
theorem columnReadings_getLsbD (v : PinView) {c : Nat} (hc : c < 8) (s : State) (k : Fin 64) :
    (columnReadings v c s).getLsbD k.val = (decide (keyColumn k = c) && rowSensedLow v s (keyRow k)) := by
  have hstart : (0 : BitVec 64).getLsbD k.val = false := BitVec.getLsbD_zero
  rw [columnReadings_eq, getLsbD_foldl_setBits, hstart, Bool.false_or, Bool.eq_iff_iff, List.any_eq_true]
  simp only [List.mem_range, Bool.and_eq_true, decide_eq_true_eq]
  unfold keyColumn keyRow
  constructor
  · rintro ⟨r, -, hlow, hcode⟩
    have hrow : k.val / 8 = r := by omega
    exact ⟨by omega, hrow ▸ hlow⟩
  · rintro ⟨hcolumn, hlow⟩
    exact ⟨k.val / 8, rowSensedLow_lt hlow, hlow, by omega⟩

/-! ## PASS_START and COLUMN_SETTLED (R105, R106) -/

theorem execPassStart_begins {s : State} (hs : s.phase = .operating) (he : s.scanner.enabled = true)
    (hp : s.scanner.pass = none) : execPassStart s = .next (s.withScanner s.scanner.startPass) := by
  simp only [execPassStart, whenOperating_of hs, he, hp, decide_true, Bool.and_self, if_true]

theorem execColumnSettled_reads {s : State} {p : Pass} (hs : s.phase = .operating) (hp : s.scanner.pass = some p)
    (hc : p.column < s.scanner.columnLines.length) (v : PinView) : execColumnSettled v s = .next (settleColumn v p s) := by
  simp only [execColumnSettled, whenOperating_of hs, hp, if_pos hc]

/-- Settles O21: the pass's start and a column's end by what each does, the readings of the column bit by bit. -/
theorem passReadsColumnByColumn : Obligations.PassReadsColumnByColumn := by
  refine ⟨fun s hs he hp => execPassStart_begins hs he hp, fun s v p hs hp hc hcolumns _ => ?_⟩
  refine ⟨p.closed ||| columnReadings v p.column s, execColumnSettled_reads hs hp hc v, fun k => ?_⟩
  rw [BitVec.getLsbD_or, columnReadings_getLsbD v (by omega)]
  rfl

/-! ## Held keys (R101, R110, R116) -/

theorem heldCount_eq_countP (keys : KeyTable) : heldCount keys = (List.finRange 64).countP fun k => (keys.get k).isHeld :=
  List.countP_eq_length_filter.symm

/-- The held keys are the longest list of different keys that are all held. -/
theorem heldCount_lt_iff (keys : KeyTable) (n : Nat) : heldCount keys < n ↔
    ∀ js : List (Fin 64), js.Nodup → (∀ j ∈ js, (keys.get j).isHeld = true) → js.length < n := by
  constructor
  · intro h js hnodup hheld
    have hsub : js ⊆ (List.finRange 64).filter fun j => (keys.get j).isHeld := fun j hj => by simpa using hheld j hj
    exact (List.subperm_of_subset hnodup hsub).length_le.trans_lt h
  · intro h
    exact h _ ((List.nodup_finRange 64).filter _) fun j hj => by simpa using hj

/-! ## The debounce table (R108, R109, R110, R111) -/

theorem attemptAcceptance_eq (k : Fin 64) (e : Evaluation) :
    attemptAcceptance k e =
      if heldCount e.keys < 4 ∧ ambiguous e.keys k = false then
        { keys := setAt e.keys k .down, reports := e.reports ++ [.keyDown k] }
      else { e with keys := setAt e.keys k .blocked } := by
  simp only [attemptAcceptance, acceptable, Bool.and_eq_true, decide_eq_true_eq, Bool.not_eq_true']

section
variable {k : Fin 64} {e : Evaluation} (D : Nat)

theorem evaluateKey_up (h : e.keys.get k = .up) :
    evaluateKey D false k e = e ∧
    evaluateKey D true k e = if D ≤ 1 then attemptAcceptance k e else recordKey k (.pressPending 1) e := by
  simp [evaluateKey, h]

theorem evaluateKey_pressPending {n : Nat} (h : e.keys.get k = .pressPending n) :
    evaluateKey D false k e = recordKey k .up e ∧
    evaluateKey D true k e = if D ≤ n + 1 then attemptAcceptance k e else recordKey k (.pressPending (n + 1)) e := by
  simp [evaluateKey, h]

theorem evaluateKey_down (h : e.keys.get k = .down) :
    evaluateKey D true k e = e ∧
    evaluateKey D false k e = if D ≤ 1 then releaseKey k e else recordKey k (.releasePending 1) e := by
  simp [evaluateKey, h]

theorem evaluateKey_releasePending {n : Nat} (h : e.keys.get k = .releasePending n) :
    evaluateKey D true k e = recordKey k .down e ∧
    evaluateKey D false k e = if D ≤ n + 1 then releaseKey k e else recordKey k (.releasePending (n + 1)) e := by
  simp [evaluateKey, h]

theorem evaluateKey_blocked (h : e.keys.get k = .blocked) :
    evaluateKey D false k e = recordKey k .up e ∧ evaluateKey D true k e = attemptAcceptance k e := by
  simp [evaluateKey, h]

end

/-- Settles O22: the held keys and the ambiguous ones by what they are, and the table one key state at a time. -/
theorem debounceFollowsItsTable : Obligations.DebounceFollowsItsTable := by
  constructor
  · intro keys k held
    have hheld (j : Fin 64) : (keys.get j).isHeld = true ↔ held j := isHeld_iff (keys.get j)
    refine ⟨?_, ?_, ?_⟩
    · simp only [ambiguous_iff, hheld]
      rfl
    · refine (heldCount_eq_countP keys).trans (congrArg (List.countP · _) (funext fun j => ?_))
      cases keys.get j <;> rfl
    · simp only [heldCount_lt_iff, hheld]
  · intro D k e put judged released
    have hjudged : attemptAcceptance k e = judged := attemptAcceptance_eq k e
    rw [← hjudged]
    exact ⟨evaluateKey_up D, fun _ => evaluateKey_pressPending D, evaluateKey_down D, fun _ => evaluateKey_releasePending D,
      evaluateKey_blocked D⟩

end Sys2Proof.Machine
end

section
/-! SCAN SET, SCAN GET, KEYS READ and CONTACTS READ. -/

namespace Sys2Proof.Machine

/-! ## Sets in a byte (10.5) -/

/-- The number whose bit i is set where `f i` holds: a set of the indices below `n`. -/
def setNumber {n : Nat} (f : Fin n → Bool) : Nat :=
  (List.finRange n).foldl (fun acc i => acc + if f i then 2 ^ i.val else 0) 0

theorem setNumber_succ {n : Nat} (f : Fin (n + 1) → Bool) :
    setNumber f = setNumber (fun i => f i.castSucc) + if f (Fin.last n) then 2 ^ n else 0 := by
  rw [setNumber, List.finRange_succ_last, List.foldl_append, List.foldl_map]
  rfl

theorem setNumber_lt {n : Nat} (f : Fin n → Bool) : setNumber f < 2 ^ n := by
  induction n with
  | zero => decide +revert
  | succ n ih =>
    have hlow := ih fun i => f i.castSucc
    rw [setNumber_succ]
    split <;> omega

/-- The index added last is the number's top bit, and the bits below it are those of the other indices. -/
theorem testBit_setNumber {n : Nat} (f : Fin n → Bool) (i : Fin n) : (setNumber f).testBit i.val = f i := by
  induction n with
  | zero => exact i.elim0
  | succ n ih =>
    have htop : (setNumber fun i => f i.castSucc).testBit n = false := Nat.testBit_lt_two_pow (setNumber_lt _)
    rw [setNumber_succ, Nat.add_comm]
    cases i using Fin.lastCases with
    | last => cases h : f (Fin.last n) <;> simp [htop, Nat.testBit_two_pow_add_eq]
    | cast i =>
      rw [← ih fun i => f i.castSucc]
      split
      · exact Nat.testBit_two_pow_add_gt i.isLt _
      · rw [Nat.zero_add]
        rfl

/-- A set in a byte has bit i exactly where index i belongs to it. -/
theorem natByte_setNumber_getLsbD (f : Fin 8 → Bool) (i : Fin 8) : (natByte (setNumber f)).getLsbD i.val = f i := by
  rw [natByte, BitVec.getLsbD_ofNat, testBit_setNumber]
  simp

theorem contactSet_getLsbD (s : State) (f : Contact → Bool) (i : Fin 8) :
    (contactSet s f).getLsbD i.val = f (s.contacts.get i) :=
  natByte_setNumber_getLsbD (fun i => f (s.contacts.get i)) i

/-- A key's column belongs to its row's set exactly where the key satisfies `f`. -/
theorem columnSet_getLsbD (keys : KeyTable) {row : Fin 8} (f : KeyState → Bool) {k : Fin 64} (hk : keyRow k = row.val) :
    (columnSet keys row f).getLsbD (keyColumn k) = f (keys.get k) := by
  have hcolumn : keyColumn k < 8 := Nat.mod_lt _ (by decide)
  have hcode : Fin.ofNat 64 (row.val * 8 + keyColumn k) = k := by
    have hval : row.val * 8 + keyColumn k = k.val := by
      rw [← hk]
      exact Nat.div_add_mod' k.val 8
    rw [hval, Fin.ofNat_val_eq_self]
  calc
    (columnSet keys row f).getLsbD (keyColumn k) = f (keys.get (Fin.ofNat 64 (row.val * 8 + keyColumn k))) :=
      natByte_setNumber_getLsbD (fun c => f (keys.get (Fin.ofNat 64 (row.val * 8 + c.val)))) ⟨keyColumn k, hcolumn⟩
    _ = f (keys.get k) := by rw [hcode]

theorem isBlocked_iff (x : KeyState) : x.isBlocked = true ↔ x = .blocked := by
  cases x <;> simp [KeyState.isBlocked]

/-! ## SCAN GET, KEYS READ and CONTACTS READ (R114, R116, R117, R132, R133) -/

section
variable {a : Args} (s : State) (v : PinView)

theorem serve_scanGet_matrix (h : a.a0 = 0) : serve .scanGet v a s = .taken .ok (scanMatrixData s) s := by
  simp only [serve, reqScanGet, if_pos h]

theorem serve_scanGet_contact {i : Fin 8} (h0 : a.a0 = 1) (h1 : a.a1.toNat = i.val) :
    serve .scanGet v a s = .taken .ok (scanContactData (s.contacts.get i)) s := by
  have hpart : a.a0 ≠ 0 := by rw [h0]; decide
  simp only [serve, reqScanGet, if_neg hpart, if_pos h0, withIndex, finOf_of_eq h1]

theorem serve_scanGet_badPart (h : 2 ≤ a.a0.toNat) : serve .scanGet v a s = .refused .badValue noData := by
  have h0 : a.a0 ≠ 0 := by rintro h0; simp [h0] at h
  have h1 : a.a0 ≠ 1 := by rintro h1; simp [h1] at h
  simp only [serve, reqScanGet, if_neg h0, if_neg h1, refuse]

theorem serve_keysRead {row : Fin 8} (h : a.a0.toNat = row.val) :
    serve .keysRead v a s =
      .taken .ok
        { noData with d0 := a.a0, d1 := columnSet s.scanner.keys row KeyState.isHeld,
                      d2 := columnSet s.scanner.keys row KeyState.isBlocked } s := by
  simp only [serve, reqKeysRead, withIndex, finOf_of_eq h]

end

/-- Settles O47: each request by what the agent's catalogue makes of it, and the sets bit by bit. -/
theorem scanReadsShowKeysAndContacts : Obligations.ScanReadsShowKeysAndContacts := by
  refine fun tag token a s count index h => ⟨fun hf h0 => row_taken .scanGet h hf (serve_scanGet_matrix s noPins h0),
    fun hf h0 => row_refused .scanGet h hf (serve_scanGet_badPart s noPins h0),
    fun i hf h0 h1 => row_taken .scanGet h hf (serve_scanGet_contact s noPins h0 h1), fun row hf hrow => ?_, fun hf => ?_⟩
  · refine ⟨_, _, row_taken .keysRead h hf (serve_keysRead s noPins hrow), fun k hk => ?_⟩
    rw [columnSet_getLsbD _ _ hk, columnSet_getLsbD _ _ hk]
    exact ⟨isHeld_iff _, isBlocked_iff _⟩
  · refine ⟨_, _, _, _, row_taken .contactsRead h hf (v := noPins) rfl, fun i => ?_⟩
    simp only [contactSet_getLsbD, decide_eq_true_eq, and_self]

/-! ## SCAN SET (R114, R115, R131) -/

theorem senseOf_code (x : Sense) : senseOf x.code.toNat = some x := by
  cases x <;> rfl

theorem senseOf_of_ge {n : Nat} (h : 5 ≤ n) : senseOf n = none := by
  obtain ⟨m, rfl⟩ := Nat.exists_eq_add_of_le' h
  rfl

theorem filterOf_of_ge {b : Byte} (h : 16 ≤ b.toNat) : filterOf b = none := if_neg (Nat.not_lt.mpr h)

section
variable {a : Args} {s : State} (v : PinView)

theorem serve_scanSet_matrix (h0 : a.a0 = 0) (h1 : 1 ≤ a.a1.toNat ∧ a.a1.toNat ≤ 32)
    (h2 : 1 ≤ a.a2.toNat ∧ a.a2.toNat ≤ 15) (he : s.scanner.enabled = false) :
    serve .scanSet v a s =
      .taken .ok { noData with d0 := 0, d1 := a.a1, d2 := a.a2 }
        (s.withScanner { s.scanner with interval := a.a1, debounce := a.a2 }) := by
  simp [serve, reqScanSet, reqScanSetMatrix, require, h0, h1, h2, he]

theorem serve_scanSet_badMatrix (h0 : a.a0 = 0)
    (h : ¬(1 ≤ a.a1.toNat ∧ a.a1.toNat ≤ 32 ∧ 1 ≤ a.a2.toNat ∧ a.a2.toNat ≤ 15)) :
    serve .scanSet v a s = .refused .badValue noData := by
  have hfit : (1 ≤ a.a1.toNat && a.a1.toNat ≤ 32 && 1 ≤ a.a2.toNat && a.a2.toNat ≤ 15) = false := by
    simpa only [← Bool.not_eq_true, Bool.and_eq_true, decide_eq_true_eq, and_assoc] using h
  simp only [serve, reqScanSet, reqScanSetMatrix, require, if_pos h0, hfit, refuse]
  rfl

/-- SCAN SET of part CONTACT, as it is served (R131). -/
theorem serve_scanSet_contact_eq (h0 : a.a0 = 1) : serve .scanSet v a s = reqScanSetContact a s := by
  have hpart : a.a0 ≠ 0 := by rw [h0]; decide
  simp only [serve, reqScanSet, if_neg hpart, if_pos h0]

theorem serve_scanSet_contact {i : Fin 8} {sense : Sense} (h0 : a.a0 = 1) (h1 : a.a1.toNat = i.val) (h2 : a.a2 = sense.code)
    (h3 : a.a3.toNat ≤ 15) (he : s.scanner.enabled = false)
    (hq : ¬(sense = .whileActive ∧ 2 ≤ (s.contacts.get i).queued)) :
    serve .scanSet v a s =
      .taken .ok { noData with d0 := 1, d1 := a.a1, d2 := a.a2, d3 := a.a3 }
        (setContact i { s.contacts.get i with sense := sense, filter := BitVec.ofNat 4 a.a3.toNat } s) := by
  have hsense : senseOf a.a2.toNat = some sense := h2 ▸ senseOf_code sense
  have hfilter : filterOf a.a3 = some (BitVec.ofNat 4 a.a3.toNat) := if_pos (by omega)
  have hfree : (!s.scanner.enabled && !(sense = .whileActive && 2 ≤ (s.contacts.get i).queued)) = true := by
    simpa [he, imp_iff_not_or] using hq
  rw [serve_scanSet_contact_eq v h0]
  simp only [reqScanSetContact, finOf_of_eq h1, hsense, hfilter, withIndex, withValue, require, hfree, if_true, h0]
  rfl

theorem serve_scanSet_badContact (h0 : a.a0 = 1) (h1 : a.a1.toNat < 8) (h : 5 ≤ a.a2.toNat ∨ 16 ≤ a.a3.toNat) :
    serve .scanSet v a s = .refused .badValue noData := by
  obtain ⟨i, hi⟩ := exists_index h1
  rw [serve_scanSet_contact_eq v h0]
  simp only [reqScanSetContact, finOf_of_eq hi, withIndex]
  rcases h with h2 | h3
  · simp only [senseOf_of_ge h2, withValue, refuse]
  · cases senseOf a.a2.toNat <;> simp only [filterOf_of_ge h3, withValue, refuse]

theorem serve_scanSet_badPart (h : 2 ≤ a.a0.toNat) : serve .scanSet v a s = .refused .badValue noData := by
  have h0 : a.a0 ≠ 0 := by rintro h0; simp [h0] at h
  have h1 : a.a0 ≠ 1 := by rintro h1; simp [h1] at h
  simp only [serve, reqScanSet, if_neg h0, if_neg h1, refuse]

end

/-- Settles O46: each part by what the agent's catalogue makes of it, and each kind of bad value by the check that finds it. -/
theorem scanSetWritesItsPart : Obligations.ScanSetWritesItsPart := by
  intro tag token a s count index h hf matrixFits
  refine ⟨fun h0 ⟨hlow, hhigh, hdebounce⟩ he =>
      row_taken .scanSet h hf (serve_scanSet_matrix noPins h0 ⟨hlow, hhigh⟩ hdebounce he),
    fun i sense h0 h1 h2 h3 he hq => row_taken .scanSet h hf (serve_scanSet_contact noPins h0 h1 h2 h3 he hq), ?_⟩
  rintro (hpart | ⟨h0, hmatrix⟩ | ⟨h0, h1, hcontact⟩)
  · exact row_refused .scanSet h hf (serve_scanSet_badPart noPins hpart)
  · exact row_refused .scanSet h hf (serve_scanSet_badMatrix noPins h0 hmatrix)
  · exact row_refused .scanSet h hf (serve_scanSet_badContact noPins h0 h1 hcontact)

end Sys2Proof.Machine
end

section
/-! The contact filter, the report of each sense, and one removal of a CONTACT report. -/

namespace Sys2Proof.Machine

/-! ## The filter (R122, R123) -/

theorem filteredOf_ne_unknown (raw : Bool) : filteredOf raw ≠ .unknown := by
  cases raw <;> nofun

section
variable {c : Contact} {raw : Bool}

theorem sampled_first (h : c.filtered = .unknown) :
    c.sampled raw = { c with filtered := filteredOf raw, agree := 0, lastRaw := raw } := if_pos h

theorem sampled_agreeing (h : c.filtered = filteredOf raw) : c.sampled raw = { c with agree := 0, lastRaw := raw } := by
  rw [Contact.sampled, if_neg (h ▸ filteredOf_ne_unknown raw), if_pos h]

theorem sampled_differing (h : c.filtered ≠ .unknown) (hne : c.filtered ≠ filteredOf raw) :
    c.sampled raw =
      if c.agree.toNat < c.filter.toNat then { c with agree := c.agree + 1, lastRaw := raw }
      else { c with filtered := filteredOf raw, agree := 0, lastRaw := raw } := by
  rw [Contact.sampled, if_neg h, if_neg hne]

end

/-! ## The report of each sense (R124, R125) -/

/-- A contact of sense WHILE_ACTIVE reports no change as such (R124). -/
@[simp] theorem reportsChange_whileActive (old new : Filtered) : reportsChange .whileActive old new = false := by
  simp [reportsChange]

/-- When a level report is wanted (R125). -/
theorem wantsLevelReport_iff (c : Contact) : c.wantsLevelReport = true ↔
    c.sense = .whileActive ∧ c.filtered = .active ∧ c.held = false ∧ c.queued = 0 := by
  simp [Contact.wantsLevelReport, and_assoc]

section
variable {c d : Contact} (i : Fin 8)

/-- Every sense but WHILE_ACTIVE reports the changes it is for, and nothing else (R124). -/
theorem contactReport?_change (hd : d.sense = c.sense) (hs : c.sense ≠ .whileActive) :
    contactReport? i c d =
      if reportsChange c.sense c.filtered d.filtered then some (.contact i (d.filtered = .active) false) else none := by
  have hlevel : ¬d.wantsLevelReport = true := fun h => hs (hd ▸ ((wantsLevelReport_iff d).mp h).1)
  rw [contactReport?, if_neg hlevel]

/-- WHILE_ACTIVE makes its level report where it is wanted, and nothing else (R125). -/
theorem contactReport?_level (hs : c.sense = .whileActive) :
    contactReport? i c d = if d.wantsLevelReport then some (.contact i true true) else none := by
  rw [contactReport?, hs, reportsChange_whileActive, if_neg Bool.false_ne_true]

end

/-- Settles O23: the filter by its four branches, and the report by whether the sense looks at changes or at the level. -/
theorem contactFilterAndSense : Obligations.ContactFilterAndSense := by
  intro c raw i
  refine ⟨sampled_first, sampled_agreeing, fun h hne hlt => (sampled_differing h hne).trans (if_pos hlt),
    fun h hne hle => (sampled_differing h hne).trans (if_neg (Nat.not_lt.mpr hle)), fun d hd hknown => ⟨?_, ?_, ?_, ?_, ?_⟩⟩
  · intro hs
    rw [contactReport?_change i hd (by simp [hs]), hs]
    simp [reportsChange]
  · intro hs
    rw [contactReport?_change i hd (by simp [hs]), hs]
    by_cases hactive : d.filtered = .active <;> simp [reportsChange, hactive]
  · intro hs
    rw [contactReport?_change i hd (by simp [hs]), hs]
    by_cases hinactive : d.filtered = .inactive <;> simp [reportsChange, hinactive]
  · intro hs
    rw [contactReport?_change i hd (by simp [hs]), hs]
    simp [reportsChange]
  · intro hs
    rw [contactReport?_level i hs]
    exact if_congr ((wantsLevelReport_iff d).trans (by simp [hd, hs])) rfl rfl

/-! ## One removal (R126) -/

/-- A contact once a report of its own has been removed, with `n` left in the queue (R126). -/
def Contact.lowered (c : Contact) (n : Nat) : Contact := { c with queued := n, held := c.held && n ≠ 0 }

/-- A removal lowers the count, and re-arms the contact where that leaves a level report wanted (R126). -/
theorem contactRemoval_eq_lowered {i : Fin 8} {s : State} {n : Nat} (h : (s.contacts.get i).queued = n + 1) :
    contactRemoval i s =
      if ((s.contacts.get i).lowered n).wantsLevelReport then
        enqueueContact i true true (setContact i ((s.contacts.get i).lowered n) s)
      else setContact i ((s.contacts.get i).lowered n) s := by
  simp only [contactRemoval, h, Nat.add_sub_cancel]
  rfl

/-- The held flag is clear at a count of 0, so it does not keep a re-arm back. -/
theorem lowered_wantsLevelReport_iff (c : Contact) (n : Nat) :
    (c.lowered n).wantsLevelReport = true ↔ c.sense = .whileActive ∧ c.filtered = .active ∧ n = 0 := by
  rw [wantsLevelReport_iff]
  simp only [Contact.lowered]
  refine and_congr_right fun _ => and_congr_right fun _ => and_iff_right_of_imp ?_
  rintro rfl
  simp

theorem setAt_setAt {α : Type} {n : Nat} (v : Vector α n) (i : Fin n) (x y : α) : setAt (setAt v i x) i y = setAt v i y :=
  Vector.set_set ..

/-- With room, the CONTACT enqueue of a contact just replaced raises that contact's count, and sets its flag for a level report. -/
theorem enqueueContact_setContact (i : Fin 8) (active level : Bool) (c : Contact) {s : State} (h : s.queue.ordinaryCount < 31) :
    enqueueContact i active level (setContact i c s) =
      setContact i { c with queued := c.queued + 1, held := c.held || level }
        (s.withQueue (s.queue.append (.contact i active))) := by
  have hroom : (setContact i c s).queue.ordinaryCount < 31 := h
  rw [enqueueContact_appended i active level hroom, enqueue_appended _ hroom]
  simp only [setContact, State.withContacts, State.withQueue, setAt_get_self, setAt_setAt]

/-- Settles O19: the removal lowers the contact, and a re-arm is the CONTACT enqueue of the lowered contact. -/
theorem removalRearmsAnActiveContact : Obligations.RemovalRearmsAnActiveContact := by
  intro i s n h
  refine ⟨fun hno => ?_, fun hs hf hn hroom => ?_, fun hs hf hn hfull => ?_⟩
  · rw [contactRemoval_eq_lowered h, if_neg (mt (lowered_wantsLevelReport_iff _ n).mp hno)]
    rfl
  · rw [contactRemoval_eq_lowered h, if_pos ((lowered_wantsLevelReport_iff _ n).mpr ⟨hs, hf, hn⟩),
      enqueueContact_setContact i true true _ hroom]
    subst hn
    simp only [Contact.lowered, Bool.or_true]
    rfl
  · rw [contactRemoval_eq_lowered h, if_pos ((lowered_wantsLevelReport_iff _ n).mpr ⟨hs, hf, hn⟩)]
    exact enqueueContact_discarded i true true hfull

end Sys2Proof.Machine
end

section
/-! What the contacts' invariant says of one contact, and what the operations of the queue make of the number of a contact's reports. -/

namespace Sys2Proof.Machine

/-! ## One contact's part of the invariant -/

/-- A contact with `n` reports in the queue, beside a scanner that is enabled or stopped (R120 to R125, R129). -/
structure Contact.Fits (enabled : Bool) (n : Nat) (c : Contact) : Prop where
  counted : c.queued = n
  held : c.held = true → n ≠ 0
  level : c.sense = .whileActive → n ≤ 1
  agree : c.agree.toNat ≤ c.filter.toNat
  stopped : enabled = false → c.filtered = .unknown ∧ c.agree = 0 ∧ c.lastRaw = false

namespace Contact.Fits

variable {enabled : Bool} {n : Nat} {c : Contact}

theorem reset (enabled : Bool) : Contact.reset.Fits enabled 0 where
  counted := rfl
  held := nofun
  level := nofun
  agree := by decide
  stopped _ := ⟨rfl, rfl, rfl⟩

/-- One more report, which WHILE_ACTIVE makes at a count of 0 alone (R124, R125). -/
theorem reported (h : c.Fits enabled n) (hlevel : c.sense = .whileActive → c.queued = 0) (level : Bool) :
    ({ c with queued := c.queued + 1, held := c.held || level } : Contact).Fits enabled (n + 1) :=
  { h with
    counted := congrArg (· + 1) h.counted
    held := fun _ => Nat.succ_ne_zero n
    level := fun hs => by simp [← h.counted, hlevel hs] }

/-- One report fewer, the held flag clear at a count of 0 (R126). -/
theorem lowered (h : c.Fits enabled (n + 1)) : (c.lowered n).Fits enabled n :=
  { h with
    counted := rfl
    held := fun hh => by
      simp only [Contact.lowered, Bool.and_eq_true, decide_eq_true_iff] at hh
      exact hh.2
    level := fun hs => Nat.le_of_succ_le (h.level hs) }

/-- A sample moves the filter alone, and its count up to F at most (R122, R123). -/
theorem sampled (h : c.Fits true n) (raw : Bool) : (c.sampled raw).Fits true n := by
  have replaced {f : Filtered} {a : BitVec 4} (ha : a.toNat ≤ c.filter.toNat) :
      ({ c with filtered := f, agree := a, lastRaw := raw } : Contact).Fits true n :=
    { h with agree := ha, stopped := nofun }
  have restarted (f : Filtered) : ({ c with filtered := f, agree := 0, lastRaw := raw } : Contact).Fits true n :=
    replaced (Nat.zero_le _)
  unfold Contact.sampled
  split
  · exact restarted _
  · split
    · exact restarted c.filtered
    · split
      · rename_i hlt
        exact replaced (f := c.filtered) (by rw [BitVec.toNat_add]; exact (Nat.mod_le _ _).trans hlt)
      · exact restarted _

/-- The queue emptied (R127). -/
theorem emptied (h : c.Fits enabled n) : ({ c with queued := 0, held := false } : Contact).Fits enabled 0 :=
  { h with counted := rfl, held := nofun, level := fun _ => Nat.zero_le 1 }

/-- The contact block disabled, with or without its held flags (R129, R134). -/
theorem disabled (h : c.Fits enabled n) (clearHeld : Bool) :
    ({ c with filtered := .unknown, agree := 0, lastRaw := false, held := c.held && !clearHeld } : Contact).Fits false n :=
  { h with
    held := fun hh => h.held (Bool.and_eq_true_iff.mp hh).1
    agree := Nat.zero_le _
    stopped := fun _ => ⟨rfl, rfl, rfl⟩ }

theorem enable (h : c.Fits enabled n) : c.Fits true n := { h with stopped := nofun }

/-- New settings find the filter at rest, and WHILE_ACTIVE at most one report (R131). -/
theorem rewritten (h : c.Fits false n) {sense : Sense} (hsense : sense = .whileActive → c.queued < 2) (filter : BitVec 4) :
    ({ c with sense := sense, filter := filter } : Contact).Fits false n :=
  { h with
    level := fun hs => h.counted ▸ Nat.le_of_lt_succ (hsense hs)
    agree := by
      obtain ⟨-, hagree, -⟩ := h.stopped rfl
      simp [hagree] }

/-- BLOCK RESET naming QUEUE leaves no report, and naming SCANNER a stopped filter (R127, R129, R134). -/
theorem afterBlockReset (h : c.Fits enabled n) (scanner queue : Bool) :
    (c.afterBlockReset scanner queue).Fits (if scanner then false else enabled) (if queue then 0 else n) := by
  cases scanner with
  | false =>
    cases queue with
    | false => exact h
    | true => exact h.emptied
  | true =>
    cases queue with
    | false => simpa [Contact.afterBlockReset] using h.disabled true
    | true => exact (h.disabled true).emptied

end Contact.Fits

/-! ## The number of a contact's reports -/

/-- The contact whose report a body is. -/
def ReportBody.contact? : ReportBody → Option (Fin 8)
  | .contact i _ => some i
  | _ => none

theorem isContactOf_iff (i : Fin 8) (r : Report) : r.isContactOf i = true ↔ r.body.contact? = some i := by
  cases hb : r.body <;> simp [Report.isContactOf, ReportBody.contact?, hb]

theorem contact?_eq_some {b : ReportBody} {i : Fin 8} : b.contact? = some i ↔ ∃ active, b = .contact i active := by
  cases b <;> simp [ReportBody.contact?]

/-- How many of these reports are of contact `i`. -/
def contactCount (i : Fin 8) (rs : List Report) : Nat := rs.countP (Report.isContactOf i)

theorem contactCount_append (i : Fin 8) (rs rs' : List Report) :
    contactCount i (rs ++ rs') = contactCount i rs + contactCount i rs' := List.countP_append

theorem contactCount_cons (i : Fin 8) (r : Report) (rs : List Report) :
    contactCount i (r :: rs) = contactCount i rs + if r.body.contact? = some i then 1 else 0 := by
  rw [contactCount, List.countP_cons]
  simp only [isContactOf_iff]
  rfl

/-- The count hangs on which reports are the contact's alone. -/
theorem contactCount_congr {i : Fin 8} {rs rs' : List Report}
    (h : rs'.map (Report.isContactOf i) = rs.map (Report.isContactOf i)) : contactCount i rs' = contactCount i rs := by
  have read (xs : List Report) : contactCount i xs = (xs.map (Report.isContactOf i)).countP id := by
    rw [List.countP_map]
    rfl
  rw [read, read, h]

section
variable (i : Fin 8) (q : Queue)

theorem contactCount_goBack : contactCount i q.goBack.reports = contactCount i q.reports := by
  refine contactCount_congr ?_
  simp only [Queue.goBack, List.map_map]
  rfl

theorem contactCount_timeout : contactCount i q.timeout.reports = contactCount i q.reports :=
  (contactCount_goBack i { q with reports := chargeOldest q.reports }).trans
    (contactCount_congr (chargeOldest_keeps (fun _ _ => rfl) q.reports))

theorem contactCount_placed : contactCount i q.placed.reports = contactCount i q.reports :=
  contactCount_congr (markOldestWaiting_keeps (fun _ _ _ => rfl) q.reports)

theorem contactCount_resync (x : Byte) : contactCount i (q.resync x).reports = contactCount i q.reports :=
  contactCount_congr (renumber_map (fun _ _ => rfl) x q.reports)

theorem contactCount_queueOnLeaving (n : NodeCtl) : contactCount i (queueOnLeaving n q).reports = contactCount i q.reports := by
  unfold queueOnLeaving
  split
  · exact contactCount_goBack i q
  · rfl

theorem contactCount_queueAppend (b : ReportBody) :
    contactCount i (q.append b).reports = contactCount i q.reports + if b.contact? = some i then 1 else 0 := by
  simp only [Queue.append, contactCount_append, contactCount_cons]
  simp [contactCount]

theorem growLost_isContactOf (lost : Byte) (r : Report) : (r.growLost lost).isContactOf i = r.isContactOf i := by
  unfold Report.growLost
  split
  · rename_i hb
    simp [Report.isContactOf, hb]
  all_goals rfl

theorem contactCount_handleOverrun : contactCount i q.handleOverrun.reports = contactCount i q.reports := by
  unfold Queue.handleOverrun
  split
  · exact contactCount_queueAppend i q (.overrun q.lost)
  · split
    · refine contactCount_congr ?_
      simp only [List.map_map, Function.comp_def, growLost_isContactOf]
    · rfl

/-- An enqueue adds its own report where it is appended, and else none (R62, R64). -/
theorem contactCount_after (b : ReportBody) :
    contactCount i (q.after b).reports =
      contactCount i q.reports + if q.hasRoom = true ∧ b.contact? = some i then 1 else 0 := by
  unfold Queue.after
  split
  · rename_i hroom
    simpa only [hroom, true_and] using contactCount_queueAppend i q b
  · rename_i hfull
    simpa [hfull] using contactCount_handleOverrun i { q with lost := satInc q.lost }

/-- The follow-up of an acknowledgement adds no CONTACT report (R66). -/
theorem contactCount_followUp (gone : List Report) : contactCount i (q.followUp gone).reports = contactCount i q.reports := by
  unfold Queue.followUp
  split
  · exact contactCount_queueAppend i q (.overrun q.lost)
  · rfl

end

end Sys2Proof.Machine
end

section
/-! The contacts' agreement with the queue through removals, re-arms and the reports of a pass. -/

namespace Sys2Proof.Machine

/-- The contacts in agreement with the queue and with `gone`, the reports an acknowledgement has taken from the queue whose removals
are still to reach the contacts (R126). -/
def ContactsFit (gone : List Report) (s : State) : Prop :=
  ∀ i, (s.contacts.get i).Fits s.scanner.enabled (contactCount i (gone ++ s.queue.reports))

theorem contactInv_iff (s : State) : ContactInv s ↔ ContactsFit [] s := by
  refine forall_congr' fun i => ?_
  rw [List.nil_append, contactCount, List.countP_eq_length_filter]
  constructor
  · rintro ⟨counted, held, level, agree, stopped⟩
    exact ⟨counted, counted ▸ held, counted ▸ level, agree, stopped⟩
  · rintro ⟨counted, held, level, agree, stopped⟩
    exact ⟨counted, counted ▸ held, counted ▸ level, agree, stopped⟩

/-- Contacts at their reset values agree with an empty queue (R86, R134). -/
theorem contactsFit_reset {s : State} (hc : s.contacts = State.reset.contacts) (hq : s.queue.reports = []) :
    ContactsFit [] s := by
  intro i
  rw [hc, hq, State.reset, get_replicate]
  exact .reset _

/-! ## A CONTACT enqueue (R124, R125) -/

section
variable (i : Fin 8) (active level : Bool) (s : State)

theorem enqueueContact_queue : (enqueueContact i active level s).queue = s.queue.after (.contact i active) := by
  unfold enqueueContact enqueue Queue.after
  cases s.queue.hasRoom <;> rfl

theorem enqueueContact_scanner : (enqueueContact i active level s).scanner = s.scanner := by
  rw [enqueueContact_eq]

/-- The contact counts the report where it is appended, and no other contact changes. -/
theorem enqueueContact_contacts : (enqueueContact i active level s).contacts =
    if s.queue.hasRoom then
      setAt s.contacts i
        { s.contacts.get i with
          queued := (s.contacts.get i).queued + 1
          held := (s.contacts.get i).held || level }
    else s.contacts := by
  unfold enqueueContact enqueue
  cases s.queue.hasRoom <;> rfl

variable {i s}

/-- WHILE_ACTIVE at a count of 0, and any other sense at any count, may make a report (R124, R125). -/
theorem ContactsFit.enqueueContact {gone : List Report} (h : ContactsFit gone s)
    (hlevel : (s.contacts.get i).sense = .whileActive → (s.contacts.get i).queued = 0) :
    ContactsFit gone (enqueueContact i active level s) := by
  intro j
  have hj := h j
  rw [contactCount_append] at hj
  rw [enqueueContact_scanner, enqueueContact_contacts, enqueueContact_queue, contactCount_append, contactCount_after]
  cases s.queue.hasRoom with
  | false => exact hj
  | true =>
    by_cases hij : i = j
    · subst hij
      simpa [ReportBody.contact?, Nat.add_assoc] using hj.reported hlevel level
    · simpa [ReportBody.contact?, hij, setAt_get_of_ne _ _ hij] using hj

end

/-! ## Removals (R126) -/

/-- One contact replaced, by one that agrees with what is left once a report of its own is gone. -/
theorem ContactsFit.setContact {r : Report} {gone : List Report} {s : State} (h : ContactsFit (r :: gone) s) {i : Fin 8}
    (hr : r.body.contact? = some i) {c : Contact} (hc : c.Fits s.scanner.enabled (contactCount i (gone ++ s.queue.reports))) :
    ContactsFit gone (setContact i c s) := by
  intro j
  have hj := h j
  rw [List.cons_append, contactCount_cons, hr] at hj
  by_cases hij : i = j
  · subst hij
    simpa [Machine.setContact] using hc
  · simpa [Machine.setContact, setAt_get_of_ne _ _ hij, hij] using hj

/-- A removal lowers its contact, and re-arms it at a count of 0 alone. -/
theorem ContactsFit.contactRemoval {r : Report} {gone : List Report} {s : State} (h : ContactsFit (r :: gone) s) {i : Fin 8}
    (hr : r.body.contact? = some i) : ContactsFit gone (contactRemoval i s) := by
  have hi := h i
  rw [List.cons_append, contactCount_cons, if_pos hr] at hi
  have hlowered : ContactsFit gone (Machine.setContact i ((s.contacts.get i).lowered _) s) := h.setContact hr hi.lowered
  rw [contactRemoval_eq_lowered hi.counted]
  split
  · rename_i hwants
    obtain ⟨-, -, -, hzero⟩ := (wantsLevelReport_iff _).mp hwants
    exact hlowered.enqueueContact true true fun _ => by simpa [Machine.setContact] using hzero
  · exact hlowered

/-- When every removal has reached the contacts, they agree with the queue. -/
theorem ContactsFit.contactRemovals {gone : List Report} {s : State} (h : ContactsFit gone s) :
    ContactsFit [] (contactRemovals gone s) := by
  induction gone generalizing s with
  | nil => exact h
  | cons r gone ih =>
    cases hr : r.body.contact? with
    | some i =>
      obtain ⟨active, hb⟩ := contact?_eq_some.mp hr
      rw [contactRemovals_contact hb]
      exact ih (h.contactRemoval hr)
    | none =>
      have hother (i : Fin 8) (active : Bool) : r.body ≠ .contact i active := fun hb => by
        simp [contact?_eq_some.mpr ⟨active, hb⟩] at hr
      rw [contactRemovals_other hother]
      refine ih fun i => ?_
      have hi := h i
      rwa [List.cons_append, contactCount_cons, hr, if_neg nofun] at hi

/-! ## The reports of a pass (R121 to R125) -/

/-- The contact whose report a pass hands over. -/
def PassReport.contact? : PassReport → Option (Fin 8)
  | .key _ => none
  | .contact i _ _ => some i

/-- How many of a pass's reports are of contact `i`. -/
def passCount (i : Fin 8) (rs : List PassReport) : Nat := rs.countP fun r => r.contact? = some i

theorem passCount_cons (i : Fin 8) (r : PassReport) (rs : List PassReport) :
    passCount i (r :: rs) = passCount i rs + if r.contact? = some i then 1 else 0 := by
  simp only [passCount, List.countP_cons, decide_eq_true_iff]

/-- The contacts agree with the queue, and the reports `rs` that a pass has still to hand over are ones they may make: a WHILE_ACTIVE
contact has room for its own, and a key's report is of no contact (R113, R125). -/
structure PassFits (rs : List PassReport) (s : State) : Prop where
  fit : ContactsFit [] s
  level : ∀ i, (s.contacts.get i).sense = .whileActive → (s.contacts.get i).queued + passCount i rs ≤ 1
  keys : ∀ b, .key b ∈ rs → b.contact? = none

/-- An enqueue of no CONTACT report leaves the contacts in agreement (R62, R64). -/
theorem ContactsFit.enqueueOnly {s : State} (h : ContactsFit [] s) {b : ReportBody} (hb : b.contact? = none) :
    ContactsFit [] (enqueueOnly b s) := by
  intro i
  rw [enqueueOnly_eq]
  simpa [contactCount_after, hb] using h i

/-- A CONTACT enqueue changes no sense, and no count but its contact's, by one at most. -/
theorem enqueueContact_get (i j : Fin 8) (active level : Bool) (s : State) :
    ((enqueueContact i active level s).contacts.get j).sense = (s.contacts.get j).sense ∧
      ((enqueueContact i active level s).contacts.get j).queued ≤ (s.contacts.get j).queued + if i = j then 1 else 0 := by
  rw [enqueueContact_contacts]
  cases s.queue.hasRoom with
  | false => exact ⟨rfl, Nat.le_add_right _ _⟩
  | true =>
    by_cases hij : i = j
    · subst hij
      simp
    · simp [setAt_get_of_ne _ _ hij]

/-- A report handed over takes up the place kept for it. -/
theorem PassFits.takePassReport {r : PassReport} {rs : List PassReport} {s : State} (h : PassFits (r :: rs) s) :
    PassFits rs (takePassReport s r) := by
  have hkeys : ∀ b, .key b ∈ rs → b.contact? = none := fun b hb => h.keys b (List.mem_cons_of_mem r hb)
  have hlevel := h.level
  simp only [passCount_cons] at hlevel
  cases r with
  | key b =>
    have hcontacts : (Machine.takePassReport s (.key b)).contacts = s.contacts := by
      rw [Machine.takePassReport, enqueueOnly_eq]
    exact ⟨h.fit.enqueueOnly (h.keys b List.mem_cons_self), hcontacts ▸ hlevel, hkeys⟩
  | contact i active level =>
    simp only [PassReport.contact?, Option.some.injEq] at hlevel
    refine ⟨h.fit.enqueueContact active level fun hs => ?_, fun j hs => ?_, hkeys⟩
    · have hi := hlevel i hs
      rw [if_pos rfl] at hi
      omega
    · obtain ⟨hsense, hqueued⟩ := enqueueContact_get i j active level s
      have hj := hlevel j (hsense ▸ hs)
      exact (Nat.add_le_add_right hqueued _).trans (by omega)

theorem PassFits.foldl {rs : List PassReport} {s : State} (h : PassFits rs s) :
    ContactsFit [] (rs.foldl Machine.takePassReport s) := by
  induction rs generalizing s with
  | nil => exact h.fit
  | cons r rs ih => exact ih h.takePassReport

theorem contactReport?_contact? {i : Fin 8} {old new : Contact} {r : PassReport} (h : contactReport? i old new = some r) :
    r.contact? = some i := by
  unfold contactReport? at h
  split at h
  · cases h
    rfl
  · split at h <;> cases h
    rfl

/-- A contact makes at most one report in a pass, and none where it has none to make. -/
theorem passCount_contactReports (i : Fin 8) (old new : Vector Contact 8) :
    passCount i (contactReports old new) ≤ 1 ∧
      (contactReport? i (old.get i) (new.get i) = none → passCount i (contactReports old new) = 0) := by
  have own {j : Fin 8} (h : ((contactReport? j (old.get j) (new.get j)).map fun r => decide (r.contact? = some i)).getD false = true) :
      j = i ∧ contactReport? j (old.get j) (new.get j) ≠ none := by
    cases hr : contactReport? j (old.get j) (new.get j) with
    | none => simp [hr] at h
    | some r =>
      have hri : r.contact? = some i := by simpa [hr] using h
      exact ⟨Option.some.inj ((contactReport?_contact? hr).symm.trans hri), nofun⟩
  rw [passCount, contactReports, List.countP_filterMap]
  refine ⟨?_, fun hnone => List.countP_eq_zero.mpr fun j _ hj => ?_⟩
  · exact (List.countP_mono_left (q := (· == i)) fun j _ hj => beq_iff_eq.mpr (own hj).1).trans
      (List.nodup_iff_count_le_one.mp (List.nodup_finRange 8) i)
  · obtain ⟨rfl, hsome⟩ := own hj
    exact hsome hnone

/-- A merge holds of each contact the reports the contacts make. -/
theorem passCount_mergeReports (i : Fin 8) (bs : List Bool) (bodies : List ReportBody) (old new : Vector Contact 8) :
    passCount i (mergeReports bs (bodies.map .key) (contactReports old new)) = passCount i (contactReports old new) := by
  obtain ⟨-, hcontacts⟩ := mergeReports_orders bs bodies old new
  have hcount := congrArg (passCount i) hcontacts
  rw [passCount, List.countP_filter] at hcount
  refine (List.countP_congr fun r _ => ?_).trans hcount
  cases r <;> simp [PassReport.contact?, PassReport.isContact]

/-- A sample touches neither the sense nor the count. -/
theorem sampled_keeps (c : Contact) (raw : Bool) : (c.sampled raw).sense = c.sense ∧ (c.sampled raw).queued = c.queued := by
  by_cases hfirst : c.filtered = .unknown
  · rw [sampled_first hfirst]
    exact ⟨rfl, rfl⟩
  · by_cases hagree : c.filtered = filteredOf raw
    · rw [sampled_agreeing hagree]
      exact ⟨rfl, rfl⟩
    · rw [sampled_differing hfirst hagree]
      split <;> exact ⟨rfl, rfl⟩

/-- A WHILE_ACTIVE contact of at most one report makes another in a pass at a count of 0 alone (R125). -/
theorem passReports_level {i : Fin 8} {old new : Vector Contact 8} (hsense : (new.get i).sense = (old.get i).sense)
    (hold : (new.get i).queued ≤ 1) (hs : (new.get i).sense = .whileActive) :
    (new.get i).queued + passCount i (contactReports old new) ≤ 1 := by
  obtain ⟨hone, hnone⟩ := passCount_contactReports i old new
  by_cases hzero : (new.get i).queued = 0
  · rwa [hzero, Nat.zero_add]
  · have hnot : ¬(new.get i).wantsLevelReport = true := fun hw => by
      obtain ⟨-, -, -, hqueued⟩ := (wantsLevelReport_iff _).mp hw
      exact hzero hqueued
    rwa [hnone ((contactReport?_level i (hsense ▸ hs)).trans (if_neg hnot))]

/-- A key's report in a merge is one of the keys', and so a KEY_DOWN or KEY_UP. -/
theorem mergeReports_keys {bs : List Bool} {sc : Scanner} {closed : BitVec 64} {old new : Vector Contact 8} {b : ReportBody}
    (h : .key b ∈ mergeReports bs ((evaluateKeys sc closed).reports.map .key) (contactReports old new)) : b.contact? = none := by
  rcases mem_mergeReports h with hkey | hcontact
  · obtain ⟨b', hb, he⟩ := List.mem_map.mp hkey
    cases he
    obtain ⟨k, -, ⟨rfl, -⟩ | ⟨rfl, -⟩⟩ := (evaluateKeys_reportsAscend sc closed).told b hb <;> rfl
  · cases contactReports_isContact hcontact

/-- The completion of an enabled scanner's pass leaves the contacts in agreement (R107, R121 to R125). -/
theorem ContactsFit.completePass {s : State} (h : ContactsFit [] s) (he : s.scanner.enabled = true) (v : PinView) (p : Pass) :
    ContactsFit [] (completePass v p s) := by
  obtain ⟨bs, taken, hpass⟩ := completePass_eq v p s
  rw [hpass]
  refine PassFits.foldl ⟨fun i => ?_, fun i hs => ?_, fun b hb => mergeReports_keys hb⟩
  · have hi := h i
    rw [he] at hi
    dsimp only
    rw [he, sampledContacts, ofFn_get]
    exact hi.sampled _
  · obtain ⟨hsense, hqueued⟩ := sampled_keeps (s.contacts.get i) (rawSample v s i)
    rw [← ofFn_get (fun i => (s.contacts.get i).sampled (rawSample v s i)) i] at hsense hqueued
    rw [passCount_mergeReports]
    refine passReports_level hsense ?_ hs
    rw [sampledContacts, hqueued, (h i).counted]
    exact (h i).level (hsense ▸ hs)

end Sys2Proof.Machine
end

section
/-! Every operation of the block keeps the contacts in agreement with the queue, and so does every step. -/

namespace Sys2Proof.Machine

/-- If the contacts agree with the queue in `s`, they agree with it in `t`. -/
def KeepsContacts (s t : State) : Prop := ContactsFit [] s → ContactsFit [] t

namespace KeepsContacts

theorem refl (s : State) : KeepsContacts s s := id

theorem trans {s t u : State} (h : KeepsContacts s t) (h' : KeepsContacts t u) : KeepsContacts s u := h' ∘ h

theorem ite {s t u : State} {c : Prop} [Decidable c] (h : KeepsContacts s t) (h' : KeepsContacts s u) :
    KeepsContacts s (if c then t else u) := by
  split <;> assumption

/-- What acts on a condition only, and then keeps the agreement, keeps it. -/
theorem iteSelf {s t : State} {c : Prop} [Decidable c] (h : c → KeepsContacts s t) : KeepsContacts s (if c then t else s) := by
  split
  · exact h ‹_›
  · exact refl s

theorem foldl {α : Type} {f : State → α → State} (h : ∀ s x, KeepsContacts s (f s x)) (xs : List α) (s : State) :
    KeepsContacts s (xs.foldl f s) := by
  induction xs generalizing s with
  | nil => exact refl s
  | cons x xs ih => exact (h s x).trans (ih _)

/-- Contacts at their reset values, beside an empty queue, agree with it whatever stood before. -/
theorem toReset {s t : State} (hc : t.contacts = State.reset.contacts) (hq : t.queue.reports = []) : KeepsContacts s t :=
  fun _ => contactsFit_reset hc hq

/-- The agreement hangs on the contacts, on whether the scanner is enabled, and on which reports are a contact's. -/
theorem same {s t : State} (hc : t.contacts = s.contacts) (he : t.scanner.enabled = s.scanner.enabled)
    (hq : ∀ i, contactCount i t.queue.reports = contactCount i s.queue.reports) : KeepsContacts s t := by
  intro h i
  have hi := h i
  rwa [hc, he, List.nil_append, hq]

/-- What changes contact by contact keeps the agreement where each contact's change does. -/
theorem each {s t : State}
    (h : ∀ i, (s.contacts.get i).Fits s.scanner.enabled (contactCount i s.queue.reports) →
      (t.contacts.get i).Fits t.scanner.enabled (contactCount i t.queue.reports)) : KeepsContacts s t :=
  fun hs i => h i (hs i)

/-! ## Enqueues and acknowledgement -/

theorem enqueueOnly {b : ReportBody} (hb : b.contact? = none) (s : State) : KeepsContacts s (enqueueOnly b s) :=
  fun h => h.enqueueOnly hb

/-- A matching acknowledgement hands the contacts the removals it makes, and its follow-up is no contact's (R66, R73, R126). -/
theorem acknowledge (seq : Byte) (s : State) : KeepsContacts s (acknowledge seq s) := by
  unfold Machine.acknowledge
  split
  · exact refl s
  · rename_i gone left hsplit
    obtain ⟨older, r, rfl, hreports, -, -⟩ := splitAtAck_some hsplit
    refine fun h => ContactsFit.contactRemovals fun i => ?_
    have hi := h i
    rw [List.nil_append, hreports, List.append_cons, contactCount_append] at hi
    simp only [State.withQueue, contactCount_append _ (older ++ [r]), contactCount_followUp]
    exact hi

theorem ackPair (position seq : Byte) (s : State) : KeepsContacts s (ackPair position seq s) :=
  ite (acknowledge seq s) (refl s)

theorem ackList (p : Payload) (s : State) : KeepsContacts s (ackList p s) :=
  ((ackPair _ _ s).trans (ackPair _ _ _)).trans (ackPair _ _ _)

theorem offer (tag : Byte) (s : State) : KeepsContacts s (offer tag s).1 := by
  unfold Machine.offer
  split
  · split
    · exact same rfl rfl fun i => contactCount_placed i s.queue
    · exact refl s
  · exact refl s

theorem advanceChannel (ch : Fin 16) (s : State) : KeepsContacts s (advanceChannel ch s) := by
  unfold Machine.advanceChannel
  split
  dsimp only
  split
  · exact refl s
  · exact fun h => enqueueOnly rfl (s.withEngine _) h

theorem dataSlot (index : Nat) (p : Payload) (s : State) : KeepsContacts s (dataSlot index p s) := by
  have applied (t : TakeEntry) (v : TakeValue) (u : State) : KeepsContacts u (applyTake t v u) := by
    unfold applyTake
    split <;> exact refl u
  unfold Machine.dataSlot
  split
  · split
    · exact ite (refl s) (applied _ _ (storeLastValue _ _ s))
    all_goals exact refl s
  · exact refl s

/-! ## The frame event and headers -/

theorem mapFrameEvent (s : State) : KeepsContacts s (mapFrameEvent s) := by
  unfold Machine.mapFrameEvent
  exact ite (fun h => enqueueOnly rfl (s.withMap _) h) (refl s)

theorem queueFrameEvent (s : State) : KeepsContacts s (queueFrameEvent s) :=
  ite (same rfl rfl fun i => contactCount_timeout i s.queue) (ite (refl s) (refl s))

theorem frameEvent (s : State) : KeepsContacts s (frameEvent s) := by
  have chosen : KeepsContacts s (tookChoice s) := refl s
  exact ite (ite ((chosen.trans (mapFrameEvent _)).trans (queueFrameEvent _))
    ((chosen.trans (queueFrameEvent _)).trans (mapFrameEvent _))) ((mapFrameEvent s).trans (queueFrameEvent _))

theorem becomeUnaddressed (s : State) : KeepsContacts s (becomeUnaddressed s) := by
  rw [becomeUnaddressed_eq]
  exact same rfl rfl fun i => contactCount_queueOnLeaving i s.queue s.node

theorem becomeReady (position epoch : Byte) (s : State) : KeepsContacts s (becomeReady position epoch s) := by
  rw [becomeReady_eq]
  exact same rfl rfl fun i => contactCount_queueOnLeaving i s.queue s.node

theorem enumerate (hop epoch : Byte) (s : State) : KeepsContacts s (enumerate hop epoch s).1 := by
  unfold Machine.enumerate
  split
  · exact refl s
  · split
    · exact becomeReady hop epoch s
    · exact becomeUnaddressed s

theorem returnFromFallback (s : State) : KeepsContacts s (returnFromFallback s) := by
  have chosen : KeepsContacts s (resumeLoop (tookChoice s)) := refl s
  have resumed : KeepsContacts s (resumeLoop s) := refl s
  have notice (t : State) : KeepsContacts t (Machine.enqueueOnly (.loopResumed s.node.outageTimer) t) := enqueueOnly rfl t
  exact ite (ite ((chosen.trans (notice _)).trans (frameEvent _)) ((chosen.trans (frameEvent _)).trans (notice _)))
    ((resumed.trans (notice _)).trans (frameEvent _))

theorem ownEpochFrame (s : State) : KeepsContacts s (ownEpochFrame s) := by
  unfold Machine.ownEpochFrame
  split
  · exact refl s
  · exact frameEvent s
  · exact fun h => frameEvent (s.withNode _) h
  · exact returnFromFallback s

theorem headerArrivalAt (k : FrameKind) (h : HeaderBytes) (s : State) : KeepsContacts s (headerArrivalAt k h s).1 := by
  have taken : KeepsContacts s (queueHeader h.cycle s) := refl s
  cases k with
  | normal => exact taken.trans (ite (refl _) (ite (ownEpochFrame _) (becomeUnaddressed _)))
  | enumerate => exact taken.trans (enumerate _ _ _)

theorem headerArrives (h : HeaderBytes) (s : State) : KeepsContacts s (headerArrives h s) := by
  unfold Machine.headerArrives
  split
  · split
    · exact refl s
    · exact refl s
    · exact headerArrivalAt _ h (setFrame _ (goodHeader (bump ctrGoodFrames s)))
  · exact refl s
  · exact refl s

theorem closeFrame (s : State) : KeepsContacts s (closeFrame s) := by
  unfold Machine.closeFrame
  split
  · exact refl s
  · exact refl s
  · exact ite (refl s) (refl s)
  · exact refl s

/-! ## START, STOP and the resets -/

/-- A START may enable the scanner, which asks nothing more of the contacts (R27, R102). -/
theorem startNode (s : State) : KeepsContacts s (startNode s) := by
  have started : KeepsContacts s (startScanner s) := ite (refl s) (each fun _ hi => hi.enable)
  exact started

/-- The disable with the scanner puts every filter at rest (R129). -/
theorem disableScanner (clearHeld : Bool) (s : State) : KeepsContacts s (disableScanner clearHeld s) := by
  refine each fun i hi => ?_
  simp only [Machine.disableScanner, disableContacts, State.withContacts, ofFn_get]
  exact hi.disabled clearHeld

theorem stopNode (s : State) : KeepsContacts s (stopNode s) := by
  have left : KeepsContacts s (leaveLoop s) := by
    rw [leaveLoop_eq]
    exact same rfl rfl fun i => contactCount_queueOnLeaving i s.queue s.node
  exact left.trans (disableScanner false _)

/-- The queue emptied, and the contacts told (R81, R127). -/
theorem flushed (s : State) : KeepsContacts s (queueEmptied (s.withQueue s.queue.flush)) := by
  refine each fun i hi => ?_
  simp only [queueEmptied, State.withContacts, ofFn_get]
  exact hi.emptied

/-- Of the blocks, SCANNER and QUEUE reach the contacts (R127, R129, R134). -/
theorem blockReset (b : BlockSet) (s : State) : KeepsContacts s (blockReset b s) := by
  rw [blockReset_eq]
  refine each fun i hi => ?_
  have henabled : (if b.scanner then s.scanner.disable else s.scanner).enabled = if b.scanner then false else s.scanner.enabled := by
    split <;> rfl
  have hcount : contactCount i (if b.queue then s.queue.blockReset else s.queue).reports =
      if b.queue then 0 else contactCount i s.queue.reports := by
    split <;> rfl
  dsimp only
  rw [ofFn_get, henabled, hcount]
  exact hi.afterBlockReset b.scanner b.queue

theorem settleReset (s : State) : KeepsContacts s (settleReset s) := iteSelf fun _ => toReset rfl rfl

/-! ## Requests -/

/-- SCAN SET of a contact finds the scanner stopped, and does not make WHILE_ACTIVE of a contact with two reports queued (R131). -/
theorem reqScanSet (a : Args) (s : State) : (reqScanSet a s).Takes fun _ t => KeepsContacts s t := by
  have matrix : (reqScanSetMatrix a s).Takes fun _ t => KeepsContacts s t :=
    require_takes fun _ => require_takes fun _ => refl s
  have contact : (reqScanSetContact a s).Takes fun _ t => KeepsContacts s t := by
    refine withIndex_takes fun i _ => withValue_takes fun sense _ => withValue_takes fun filter _ => require_takes fun hfree => ?_
    obtain ⟨hstopped, hsense⟩ : s.scanner.enabled = false ∧ (sense = .whileActive → (s.contacts.get i).queued < 2) := by
      simpa [imp_iff_not_or] using hfree
    refine each fun j hj => ?_
    by_cases hij : i = j
    · subst hij
      rw [hstopped] at hj
      simpa [setContact, hstopped] using hj.rewritten hsense filter
    · simpa [setContact, setAt_get_of_ne _ _ hij] using hj
  exact ite_takes matrix (ite_takes contact trivial)

/-- Of the requests, START, STOP, BLOCK RESET, RESYNC, FLUSH and SCAN SET touch the contacts, the scanner or the reports (9.11). -/
theorem serve (r : Request) (v : PinView) (a : Args) (s : State) : (serve r v a s).Takes fun _ t => KeepsContacts s t := by
  have kept : KeepsContacts s s := refl s
  cases r with
  | start =>
    refine require_takes fun _ => ?_
    split
    · trivial
    · exact startNode s
  | stop => exact require_takes fun _ => stopNode s
  | blockReset => exact withValue_takes fun b _ => blockReset b s
  | resync => exact same rfl rfl fun i => contactCount_resync i s.queue a.a0
  | flush => exact flushed s
  | scanSet => exact reqScanSet a s
  | mapWrite => exact withIndex_takes fun _ _ => withValue_takes fun _ _ => require_takes fun _ => kept
  | mapCommit =>
    refine require_takes fun _ => ?_
    split
    · trivial
    · exact kept
  | info => exact ite_takes kept (ite_takes kept trivial)
  | status => exact ite_takes kept (ite_takes kept (ite_takes kept trivial))
  | counter => exact withIndex_takes fun n _ => withValue_takes fun _ _ => ite (t := clearCounter n s) kept kept
  | loopSet => exact require_takes fun _ => require_takes fun _ => kept
  | nodeReset | loopGet | contactsRead => exact kept
  | mapRead => exact withIndex_takes fun _ _ => withValue_takes fun _ _ => ite_takes kept kept
  | lineWrite => exact require_takes fun _ => withIndex_takes fun _ _ => withValue_takes fun _ _ => kept
  | scanGet => exact ite_takes kept (ite_takes (withIndex_takes fun _ _ => kept) trivial)
  | lineRead | keysRead | effectRead | segmentRead => exact withIndex_takes fun _ _ => kept
  | effectWrite => exact withIndex_takes fun _ _ => withValue_takes fun _ _ => require_takes fun _ => kept
  | segmentWrite => exact withIndex_takes fun _ _ => require_takes fun _ => kept
  | channelSet | channelGet => exact withIndex_takes fun _ _ => withValue_takes fun _ _ => kept
  | channelDrive =>
    exact withIndex_takes fun _ _ => withValue_takes fun _ _ => withValue_takes fun _ _ => withValue_takes fun _ _ => kept
  | unknown _ => trivial

theorem addressed (position token : Byte) (r : Request) (v : PinView) (a : Args) (s : State) :
    KeepsContacts s (addressed position token r v a s).1 := by
  unfold Machine.addressed
  split
  · exact refl s
  · split
    · exact refl s
    · rename_i st d t hv
      have ht := serve r v a s
      rw [hv] at ht
      exact trans ht (ite (refl t) (refl t))

theorem broadcast (r : Request) (s : State) : KeepsContacts s (broadcast r s) := by
  unfold Machine.broadcast
  split
  · unfold broadcastStart
    split
    · split
      · exact refl s
      · exact startNode s
    all_goals exact refl s
  · unfold broadcastStop
    split
    · exact stopNode s
    all_goals exact refl s
  · exact refl s
  · exact refl s

theorem mgmtSlot (tag token : Byte) (r : Request) (v : PinView) (a : Args) (s : State) :
    KeepsContacts s (mgmtSlot tag token r v a s).1 := by
  unfold Machine.mgmtSlot
  split
  · split
    iterate 3 exact broadcast r s
    exact refl s
  · split
    · split
      iterate 2 exact addressed tag token r v a s
      all_goals exact refl s
    · exact refl s

/-! ## Slots -/

theorem dispatchSlot (k : SlotKind) (index : Nat) (b : SlotBytes) (v : PinView) (s : State) :
    KeepsContacts s (dispatchSlot k index b v s).1 := by
  cases k with
  | void | mgmtReply => exact refl s
  | data =>
    simp only [Machine.dispatchSlot]
    split
    · exact dataSlot index b.payload s
    · exact refl s
  | container =>
    simp only [Machine.dispatchSlot]
    split
    · exact offer b.tag s
    · exact refl s
  | ackList =>
    simp only [Machine.dispatchSlot]
    split
    · exact ackList b.payload s
    · exact refl s
  | mgmt => exact mgmtSlot _ _ _ v _ s

theorem judgeSlot (b : SlotBytes) (v : PinView) (kind : FrameKind) (index : Nat) (s : State) :
    KeepsContacts s (judgeSlot b v kind index s).1 := by
  unfold Machine.judgeSlot
  split
  · exact refl s
  · split
    · exact refl s
    · split
      · exact dispatchSlot _ index b v s
      · exact refl s

theorem slotArrives (b : SlotBytes) (v : PinView) (s : State) : KeepsContacts s (slotArrives b (Machine.judgeSlot b v) s) := by
  unfold Machine.slotArrives
  split
  · exact ite (judgeSlot b v _ _ s) (refl s)
  · exact ite (refl s) (refl s)
  · exact refl s
  · exact refl s

/-! ## Commands -/

theorem exec_supply {c : Instr} (h : isSupplyCommand c = true) {s t : State} (he : exec c s = .next t) : KeepsContacts s t := by
  cases c with
  | powerOnReset | powerLoss =>
    obtain rfl := Host.Outcome.next.inj he
    exact toReset rfl rfl
  | resetReleased | startUpComplete =>
    obtain rfl := Host.Outcome.next.inj he
    exact ite (refl _) (refl _)
  | pinReset pulse =>
    obtain ⟨rfl | rfl, -⟩ | rfl | rfl | ⟨rfl, -⟩ := execPinReset_cases he
    · exact toReset rfl rfl
    · exact toReset rfl rfl
    all_goals exact refl _
  | _ => cases h

/-- What every command but those of the supply does to a node in operation keeps the agreement. A pass is completed by an enabled
scanner alone, and there the scanner's invariant is needed (R107, R121). -/
theorem exec_operating {c : Instr} (h : isSupplyCommand c = false) :
    ∃ f : State → State, (∀ s, ScannerInv s → KeepsContacts s (f s)) ∧ ∀ s, exec c s = .next (whenOperating f s) := by
  cases hr : c.request? with
  | some r =>
    obtain ⟨b, v, hslot⟩ := exec_request_eq_slot hr
    exact ⟨_, fun s _ => (settleReset s).trans (slotArrives b v _), hslot⟩
  | none =>
    cases c with
    | startMark tail =>
      exact ⟨fun s => startMarkArrives tail (Machine.settleReset s), fun s _ => (settleReset s).trans (closeFrame _), fun _ => rfl⟩
    | endMark tail =>
      exact ⟨fun s => endMarkArrives tail (Machine.settleReset s), fun s _ => (settleReset s).trans (closeFrame _), fun _ => rfl⟩
    | headerArrival bytes => exact ⟨_, fun s _ => (settleReset s).trans (headerArrives bytes _), fun _ => rfl⟩
    | slotArrival b v => exact ⟨_, fun s _ => (settleReset s).trans (slotArrives b v _), fun _ => rfl⟩
    | nodeResetTakesPlace => exact ⟨_, fun s _ => settleReset s, fun _ => rfl⟩
    | markTimerExpiry =>
      refine ⟨_, fun s _ => ?_, fun _ => rfl⟩
      rw [markTimerExpires_eq]
      exact refl s
    | silenceTimerExpiry =>
      refine ⟨_, fun s _ => ?_, fun _ => rfl⟩
      exact iteSelf fun _ => same rfl rfl fun i => contactCount_goBack i s.queue
    | timeoutGoBack =>
      refine ⟨_, fun s _ => ?_, fun _ => rfl⟩
      exact iteSelf fun _ => same rfl rfl fun i => contactCount_timeout i s.queue
    | outageTimerStep | passStart =>
      refine ⟨_, fun s _ => ?_, fun _ => rfl⟩
      exact iteSelf fun _ => refl s
    | commitCarriedOut => exact ⟨_, fun s _ => iteSelf fun _ => mapFrameEvent s, fun _ => rfl⟩
    | columnSettled v =>
      refine ⟨_, fun s _ => ?_, fun _ => rfl⟩
      split
      · exact iteSelf fun _ => refl s
      · exact refl s
    | passCompletion v =>
      refine ⟨_, fun s hscanner => ?_, fun _ => rfl⟩
      split
      · rename_i p hp
        have henabled : s.scanner.enabled = true := ((scannerInv_iff s).mp hscanner).enabled_of_pass hp
        exact ite (refl s) fun h => h.completePass henabled v p
      · exact refl s
    | indicatorTick => exact ⟨tickChannels, fun s _ => foldl (fun s ch => advanceChannel ch s) _ s, fun _ => rfl⟩
    | glideEnd ch | segmentEnd ch => exact ⟨_, fun s _ => iteSelf fun _ => advanceChannel ch s, fun _ => rfl⟩
    | pulseWidthPeriod => exact ⟨beginPeriod, fun s _ => refl s, fun _ => rfl⟩
    | powerOnReset | pinReset | resetReleased | startUpComplete | powerLoss => cases h
    | _ => cases hr

theorem ofExec (c : Instr) {s t : State} (hscanner : ScannerInv s) (he : exec c s = .next t) : KeepsContacts s t := by
  cases hc : isSupplyCommand c with
  | true => exact exec_supply hc he
  | false =>
    obtain ⟨f, hf, hexec⟩ := exec_operating hc
    obtain rfl := Host.Outcome.next.inj ((hexec s).symm.trans he)
    exact iteSelf fun _ => hf s hscanner

end KeepsContacts

/-- Settles O58: the contacts' invariant is each contact's agreement with its reports in the queue, which every command keeps; the
scanner's invariant, which every step keeps as well, says that a pass is completed by an enabled scanner. -/
theorem stepKeepsContactsInAgreement : Obligations.StepKeepsContactsInAgreement := by
  intro s t hcontacts hscanner hstep
  refine (step_keeps (P := fun s => ContactInv s ∧ ScannerInv s) (fun _ _ h => h) (fun c s t hs he => ?_) s t
    ⟨hcontacts, hscanner⟩ hstep).1
  obtain ⟨hcontacts, hscanner⟩ := hs
  refine ⟨?_, (scannerInv_iff t).mpr (KeepsScanner.ofExec c he ((scannerInv_iff s).mp hscanner))⟩
  rw [contactInv_iff] at hcontacts ⊢
  exact KeepsContacts.ofExec c hscanner he hcontacts

end Sys2Proof.Machine
end

section
/-! The ramp, one channel's advance by its mode, and a glide from its first tick to its target. -/

namespace Sys2Proof.Machine

/-! ## The ramp (R139) -/

/-- A share `k / n` of a change that does not fall lies between none of it and the whole of it. -/
theorem tdiv_share_of_nonneg {d : Int} {k n : Nat} (hd : 0 ≤ d) (hn : 1 ≤ n) (hk : k ≤ n) :
    0 ≤ Int.tdiv (d * k) n ∧ Int.tdiv (d * k) n ≤ d := by
  have hpart : 0 ≤ d * k := by positivity
  have hwhole : d * k ≤ d * n := by gcongr
  rw [Int.tdiv_eq_ediv_of_nonneg hpart]
  exact ⟨Int.ediv_nonneg hpart (by omega), Int.ediv_le_of_le_mul (by omega) hwhole⟩

/-- Truncated toward zero, a ramp's level lies between its start and its target (R139). -/
theorem rampLevel_toNat (start target : Byte) {k n : Nat} (hn : 1 ≤ n) (hk : k ≤ n) :
    ((rampLevel start target k n).toNat : Int) =
      (start.toNat : Int) + Int.tdiv (((target.toNat : Int) - (start.toNat : Int)) * (k : Int)) (n : Int) := by
  have hstart := start.isLt
  have htarget := target.isLt
  have hrange : 0 ≤ (start.toNat : Int) + Int.tdiv (((target.toNat : Int) - start.toNat) * k) n ∧
      (start.toNat : Int) + Int.tdiv (((target.toNat : Int) - start.toNat) * k) n < 256 := by
    rcases Int.le_total start.toNat target.toNat with hrise | hfall
    · have hshare := tdiv_share_of_nonneg (d := (target.toNat : Int) - start.toNat) (by omega) hn hk
      omega
    · have hshare := tdiv_share_of_nonneg (d := -((target.toNat : Int) - start.toNat)) (by omega) hn hk
      rw [Int.neg_mul, Int.neg_tdiv] at hshare
      omega
  unfold rampLevel
  rw [BitVec.toNat_ofInt, Int.toNat_of_nonneg (Int.emod_nonneg _ (by decide))]
  exact Int.emod_eq_of_lt hrange.1 hrange.2

theorem rampLevel_target (start target : Byte) {n : Nat} (hn : 1 ≤ n) : rampLevel start target n n = target := by
  have hlevel := rampLevel_toNat start target hn (le_refl n)
  rw [Int.mul_tdiv_cancel _ (by omega)] at hlevel
  apply BitVec.eq_of_toNat_eq
  omega

theorem rampLevel_unchanged (start : Byte) (k n : Nat) : rampLevel start start k n = start := by
  simp [rampLevel]

/-- Settles O25: the truncated change stays within the whole change, so the level is a byte. -/
theorem rampIsTruncatedTowardItsStart : Obligations.RampIsTruncatedTowardItsStart :=
  fun start target k n hn hk => ⟨rampLevel_toNat start target hn hk, rampLevel_target start target hn, rampLevel_unchanged start k n⟩

/-! ## Segments of a record (R135) -/

/-- A record's position is a segment of the pool (R135). -/
theorem segmentAt_eq (e : Engine) {r : EffectRecord} {position : Nat} (hfits : rangeFits r.first r.count = true)
    (hpos : position < r.count.val) :
    ∃ j : Fin 128, j.val = r.first.val + position ∧ e.segmentAt r position = e.segments.get j := by
  have hpool : r.first.val + r.count.val ≤ 128 := by
    simp only [rangeFits, Bool.or_eq_true, decide_eq_true_eq] at hfits
    omega
  refine ⟨Fin.ofNat 128 (r.first.val + position), ?_, rfl⟩
  exact Nat.mod_eq_of_lt (by omega)

/-! ## One channel's advance (R138 to R145) -/

section
variable {e : Engine} {c : Channel}

theorem advance_steady (h : c.motion = .steady) : e.advance c = (c, none) := by
  simp only [Engine.advance, h]

/-- A glide with ticks left moves along its ramp (R140). -/
theorem advance_glides {start target length : Byte} {elapsed : Nat} (h : c.motion = .gliding start target length elapsed)
    (hleft : elapsed + 1 < length.toNat) :
    e.advance c =
      ({ c with motion := .gliding start target length (elapsed + 1),
                level := rampLevel start target (elapsed + 1) length.toNat }, none) := by
  simp only [Engine.advance, h, if_pos hleft]

/-- A PLAYING channel at the next tick of its segment (R141). -/
def Engine.shown (e : Engine) (c : Channel) (i : Fin 32) (position tick : Nat) (segStart : Byte) (runs : Option Byte) : Channel :=
  { c with motion := .playing i position (tick + 1) segStart runs,
           level := segmentLevel (e.segmentAt (e.effects.get i) position) segStart (tick + 1) }

variable {i : Fin 32} {position tick : Nat} {segStart : Byte} {runs : Option Byte}

theorem advance_follows (h : c.motion = .playing i position tick segStart runs)
    (hleft : tick + 1 < (e.segmentAt (e.effects.get i) position).length) :
    e.advance c = (e.shown c i position tick segStart runs, none) := by
  simp only [Engine.advance, h, if_neg (Nat.not_le.mpr hleft)]
  rfl

theorem advance_segmentEnd (h : c.motion = .playing i position tick segStart runs)
    (hend : (e.segmentAt (e.effects.get i) position).length ≤ tick + 1) :
    e.advance c = e.segmentEnd i position runs (e.shown c i position tick segStart runs) := by
  simp only [Engine.advance, h, if_pos hend]
  rfl

theorem segmentEnd_next (h : position + 1 < (e.effects.get i).count.val) :
    e.segmentEnd i position runs c = (e.beginSegment i (position + 1) runs c, none) := if_pos h

theorem segmentEnd_last (h : (e.effects.get i).count.val ≤ position + 1) :
    e.segmentEnd i position runs c = e.runEnd i runs c := if_neg (Nat.not_lt.mpr h)

theorem runEnd_endless : e.runEnd i none c = (e.beginSegment i 0 none c, none) := rfl

theorem runEnd_again {n : Byte} (h : 2 ≤ n.toNat) : e.runEnd i (some n) c = (e.beginSegment i 0 (some (n - 1)) c, none) :=
  if_pos h

theorem runEnd_over {n : Byte} (h : n.toNat ≤ 1) :
    e.runEnd i (some n) c =
      (e.applyEndAction (e.effects.get i).endAction c, if (e.effects.get i).notify then some i else none) :=
  if_neg (Nat.not_lt.mpr h)

/-- The last tick of a run's last segment is the run's end (R141, R143). -/
theorem advance_runEnd (h : c.motion = .playing i position tick segStart runs)
    (hend : (e.segmentAt (e.effects.get i) position).length ≤ tick + 1) (hlast : (e.effects.get i).count.val ≤ position + 1) :
    e.advance c = e.runEnd i runs (e.shown c i position tick segStart runs) :=
  (advance_segmentEnd h hend).trans (segmentEnd_last hlast)

end

/-- Settles O26: the pool's segments, a start by whether the record is empty, and an advance by the mode, the segment's length, the
record's count and the runs left. -/
theorem channelAdvancesByItsMode : Obligations.ChannelAdvancesByItsMode := by
  refine ⟨fun e r position => segmentAt_eq e, fun e c i override => ?_, fun e c => ⟨advance_steady, ?_, ?_⟩⟩
  · intro r
    by_cases hempty : r.count = 0
    · rw [startEffect_empty override c hempty, if_pos hempty]
      rfl
    · rw [startEffect_run override c hempty, if_neg hempty]
      rfl
  · intro start target length elapsed hm
    by_cases hleft : elapsed + 1 < length.toNat
    · rw [advance_glides hm hleft, if_pos hleft]
    · rw [advance_glideEnd hm (Nat.not_lt.mp hleft), if_neg hleft]
  · intro i position tick segStart runs hm r g level shown begin
    refine ⟨advance_follows hm, fun hend hnext => ?_, fun hend hlast => ?_⟩
    · exact (advance_segmentEnd hm hend).trans (segmentEnd_next hnext)
    · have hrun := advance_runEnd hm hend hlast
      refine ⟨fun hruns => ?_, fun n hruns hmore => ?_, fun n hruns hone => ?_⟩
      · subst hruns
        exact hrun.trans runEnd_endless
      · subst hruns
        exact hrun.trans (runEnd_again hmore)
      · subst hruns
        have hover := hrun.trans (runEnd_over hone)
        refine ⟨fun v ha => hover.trans ?_, fun v ha => hover.trans ?_, fun j ha => hover.trans ?_⟩ <;>
          rw [show (e.effects.get i).endAction = _ from ha] <;> rfl

/-! ## A glide's ticks (R140) -/

theorem execIndicatorTick_operating {s : State} (h : s.phase = .operating) : execIndicatorTick s = .next (tickChannels s) :=
  congrArg Host.Outcome.next (whenOperating_of h)

/-- The tick makes of every channel its own advance (R138). -/
theorem tickChannels_channel (s : State) (ch : Fin 16) :
    (tickChannels s).engine.channels.get ch = (s.engine.advance (s.engine.channels.get ch)).1 := by
  rw [tickChannels_eq, State.withEngine_engine, advanced_get, if_pos (List.mem_finRange ch)]

section
variable {s : State} {ch : Fin 16} {start target length : Byte}
  (h : (s.engine.channels.get ch).motion = .gliding start target length 0)
include h

theorem glide_underway {k : Nat} (hk : 1 ≤ k) (hlength : k < length.toNat) :
    (tickChannels^[k] s).engine.channels.get ch =
      { s.engine.channels.get ch with
        motion := .gliding start target length k, level := rampLevel start target k length.toNat } := by
  induction k, hk using Nat.le_induction with
  | base =>
    rw [Function.iterate_one, tickChannels_channel, advance_glides h hlength]
  | succ k hk ih =>
    rw [Function.iterate_succ_apply', tickChannels_channel, ih (by omega), advance_glides rfl hlength]

/-- The tick that ends the glide is its n-th, or its first where n is 0 (R140). -/
theorem glide_arrives {k : Nat} (hk : length.toNat ≤ k + 1) (hbefore : k = 0 ∨ k < length.toNat) :
    (tickChannels^[k + 1] s).engine.channels.get ch = { s.engine.channels.get ch with motion := .steady, level := target } := by
  rw [Function.iterate_succ_apply', tickChannels_channel]
  rcases Nat.eq_zero_or_pos k with rfl | hpos
  · rw [Function.iterate_zero_apply, advance_glideEnd h hk]
  · rw [glide_underway h hpos (by omega), advance_glideEnd rfl hk]

theorem glide_over {k : Nat} (hlength : length.toNat ≤ k) (hk : 1 ≤ k) :
    (tickChannels^[k] s).engine.channels.get ch = { s.engine.channels.get ch with motion := .steady, level := target } := by
  induction k with
  | zero => omega
  | succ k ih =>
    by_cases hbefore : k = 0 ∨ k < length.toNat
    · exact glide_arrives h hlength hbefore
    · rw [Function.iterate_succ_apply', tickChannels_channel, ih (by omega) (by omega), advance_steady rfl]

end

/-- Settles O28, by induction over the ticks: each is the channel's own advance, whatever the other channels do. -/
theorem glideReachesItsTargetOnTime : Obligations.GlideReachesItsTargetOnTime :=
  ⟨fun _ hp => execIndicatorTick_operating hp,
    fun _ _ _ _ _ h => ⟨fun _ hk hlength => glide_underway h hk hlength, fun _ hlength hk => glide_over h hlength hk⟩⟩

end Sys2Proof.Machine
end

section
/-! Effects in play and segments in use, and the requests of the indicator engine. -/

namespace Sys2Proof.Machine

/-! ## In play, in use (R136) -/

theorem effect?_eq_some {m : Motion} {i : Fin 32} :
    m.effect? = some i ↔ ∃ position tick segStart runs, m = .playing i position tick segStart runs := by
  cases m <;> simp [Motion.effect?]

theorem inPlay_iff (e : Engine) (i : Fin 32) :
    e.inPlay i = true ↔ ∃ ch, (e.channels.get ch).motion.effect? = some i := by
  simp [Engine.inPlay]

theorem covers_iff (r : EffectRecord) (j : Fin 128) :
    r.covers j = true ↔ r.first.val ≤ j.val ∧ j.val < r.first.val + r.count.val := by
  simp [EffectRecord.covers]

theorem segmentInUse_iff (e : Engine) (j : Fin 128) :
    e.segmentInUse j = true ↔
      ∃ ch i, (e.channels.get ch).motion.effect? = some i ∧ (e.effects.get i).covers j = true := by
  unfold Engine.segmentInUse
  rw [List.any_eq_true]
  simp only [List.mem_finRange, true_and]
  refine exists_congr fun ch => ?_
  cases (e.channels.get ch).motion.effect? <;> simp

/-- A flag's byte is 0 or 1, and 1 exactly where the flag is set (R197). -/
theorem flagByte_cases (b : Bool) : (flagByte b = 0 ∨ flagByte b = 1) ∧ (flagByte b = 1 ↔ b = true) := by
  cases b <;> decide

/-! ## Effect memory (R152, R153, R158) -/

section
variable {a : Args} {s : State} (v : PinView)

theorem serve_effectWrite {i : Fin 32} {r : EffectRecord} (hi : a.a0.toNat = i.val)
    (hr : effectRecordOf a.a1 a.a2 a.a3 a.a4 = some r) (hplay : s.engine.inPlay i = false) :
    serve .effectWrite v a s =
      .taken .ok (effectData a.a0 r) (s.withEngine { s.engine with effects := setAt s.engine.effects i r }) := by
  simp only [serve, reqEffectWrite, finOf_of_eq hi, hr, hplay, withIndex, withValue, require, Bool.not_false, if_true]

theorem serve_effectWrite_badValue {i : Fin 32} (hi : a.a0.toNat = i.val)
    (hr : effectRecordOf a.a1 a.a2 a.a3 a.a4 = none) : serve .effectWrite v a s = .refused .badValue noData := by
  simp only [serve, reqEffectWrite, finOf_of_eq hi, hr, withIndex, withValue, refuse]

theorem serve_segmentWrite {j : Fin 128} (hj : a.a0.toNat = j.val) (huse : s.engine.segmentInUse j = false) :
    serve .segmentWrite v a s =
      .taken .ok { d0 := a.a0, d1 := a.a1, d2 := a.a2, d3 := a.a3, d4 := 0 }
        (s.withEngine
          { s.engine with segments := setAt s.engine.segments j { target := a.a1, ramp := a.a2, hold := a.a3 } }) := by
  simp only [serve, reqSegmentWrite, finOf_of_eq hj, huse, withIndex, require, Bool.not_false, if_true]

theorem serve_effectRead {i : Fin 32} (hi : a.a0.toNat = i.val) :
    serve .effectRead v a s = .taken .ok (effectData a.a0 (s.engine.effects.get i)) s := by
  simp only [serve, reqEffectRead, finOf_of_eq hi, withIndex]

theorem serve_effectRead_badIndex (hi : 32 ≤ a.a0.toNat) : serve .effectRead v a s = .refused .badIndex noData := by
  simp only [serve, reqEffectRead, finOf_of_le hi, withIndex, refuse]

theorem serve_segmentRead {j : Fin 128} (hj : a.a0.toNat = j.val) :
    serve .segmentRead v a s =
      .taken .ok
        { d0 := a.a0, d1 := (s.engine.segments.get j).target, d2 := (s.engine.segments.get j).ramp,
          d3 := (s.engine.segments.get j).hold, d4 := flagByte (s.engine.segmentInUse j) } s := by
  simp only [serve, reqSegmentRead, finOf_of_eq hj, withIndex]

theorem serve_segmentRead_badIndex (hj : 128 ≤ a.a0.toNat) : serve .segmentRead v a s = .refused .badIndex noData := by
  simp only [serve, reqSegmentRead, finOf_of_le hj, withIndex, refuse]

end

/-- Settles O48: in play and in use by the channels that play, and each request by what the agent's catalogue makes of it. -/
theorem effectMemoryWrites : Obligations.EffectMemoryWrites := by
  refine ⟨fun e => ⟨fun i => ?_, fun j => ?_⟩, fun tag token a s count index h => ?_⟩
  · simp only [inPlay_iff, effect?_eq_some]
  · simp only [segmentInUse_iff, effect?_eq_some, covers_iff]
  · exact ⟨fun i r hf hi hr hplay => row_taken .effectWrite h hf (serve_effectWrite noPins hi hr hplay),
      fun i hf hi hr => row_refused .effectWrite h hf (serve_effectWrite_badValue noPins hi hr),
      fun j hf hj huse => row_taken .segmentWrite h hf (serve_segmentWrite noPins hj huse)⟩

/-- Settles O49: each request by what the agent's catalogue makes of it, and the flag's byte by the channels that play. -/
theorem effectMemoryReads : Obligations.EffectMemoryReads := by
  refine fun tag token a s count index h => ⟨fun i hf hi => row_taken .effectRead h hf (serve_effectRead noPins hi),
    fun hf hi => row_refused .effectRead h hf (serve_effectRead_badIndex noPins hi), fun j hf hj => ?_,
    fun hf hj => row_refused .segmentRead h hf (serve_segmentRead_badIndex noPins hj)⟩
  obtain ⟨hbyte, hset⟩ := flagByte_cases (s.engine.segmentInUse j)
  refine ⟨_, row_taken .segmentRead h hf (serve_segmentRead noPins hj), hbyte, hset.trans ?_⟩
  simp only [segmentInUse_iff, covers_iff]

/-! ## CHANNEL SET and CHANNEL GET (R156, R157) -/

/-- A fallback mode is read back from the two bytes it is shown in (10.5). -/
theorem fallbackOf_code (f : FallbackMode) : fallbackOf f.code f.value = some f := by
  cases f with
  | keep v => rfl
  | level v => rfl
  | effect e =>
    have he : fallbackOf (FallbackMode.effect e).code (FallbackMode.effect e).value =
        (finOf 32 (natByte e.val).toNat).map .effect := rfl
    rw [he, finOf_natByte (by decide)]
    rfl

/-- No fallback mode has a code above 2, and EFFECT none with a value above 31 (R156). -/
theorem fallbackOf_none {mode value : Byte} (h : 3 ≤ mode.toNat ∨ mode = 2 ∧ 32 ≤ value.toNat) :
    fallbackOf mode value = none := by
  unfold fallbackOf
  rcases h with h | ⟨rfl, h⟩
  · rw [if_neg (by bv_omega), if_neg (by bv_omega), if_neg (by bv_omega)]
  · rw [if_neg (by decide), if_neg (by decide), if_pos rfl, finOf_of_le h]
    rfl

section
variable {a : Args} {s : State} {ch : Fin 16} (v : PinView)

theorem serve_channelSet {f : FallbackMode} (hch : a.a0.toNat = ch.val) (hf : fallbackOf a.a1 a.a2 = some f) :
    serve .channelSet v a s =
      .taken .ok { noData with d0 := a.a0, d1 := a.a1, d2 := a.a2 }
        (s.withEngine
          { s.engine with channels := setAt s.engine.channels ch { s.engine.channels.get ch with fallback := f } }) := by
  simp only [serve, reqChannelSet, finOf_of_eq hch, hf, withIndex, withValue]

theorem serve_channelSet_badValue (hch : a.a0.toNat = ch.val) (hf : fallbackOf a.a1 a.a2 = none) :
    serve .channelSet v a s = .refused .badValue noData := by
  simp only [serve, reqChannelSet, finOf_of_eq hch, hf, withIndex, withValue, refuse]

theorem serve_channelGet {page1 : Bool} (hch : a.a0.toNat = ch.val) (hp : flagOf a.a1.toNat = some page1) :
    serve .channelGet v a s =
      .taken .ok
        (if page1 then channelPage1 (s.engine.channels.get ch) else channelPage0 (s.engine.channels.get ch)) s := by
  simp only [serve, reqChannelGet, finOf_of_eq hch, hp, withIndex, withValue]

theorem serve_channelGet_badValue (hch : a.a0.toNat = ch.val) (hp : 2 ≤ a.a1.toNat) :
    serve .channelGet v a s = .refused .badValue noData := by
  simp only [serve, reqChannelGet, finOf_of_eq hch, flagOf_none hp, withIndex, withValue, refuse]

end

/-- Settles O50: the fallback mode read back from its bytes, and each page and refusal by the agent's catalogue. -/
theorem channelSetAndGet : Obligations.ChannelSetAndGet := by
  intro tag token a s count index ch h hch c
  have page (page1 : Bool) (hf : s.fresh token 0x39 a) (hp : flagOf a.a1.toNat = some page1) :=
    row_taken .channelGet h hf (serve_channelGet noPins hch hp)
  refine ⟨fun f hf hmode hvalue => ?_, fun hf hbad => ?_, fun hf hp => page false hf (by rw [hp]; rfl),
    fun hf hp => page true hf (by rw [hp]; rfl), fun hf hp => ?_⟩
  · rw [← hmode, ← hvalue]
    exact row_taken .channelSet h hf (serve_channelSet noPins hch (by rw [hmode, hvalue, fallbackOf_code]))
  · exact row_refused .channelSet h hf (serve_channelSet_badValue noPins hch (fallbackOf_none hbad))
  · exact row_refused .channelGet h hf (serve_channelGet_badValue noPins hch hp)

/-! ## CHANNEL DRIVE (R146 to R148, R155) -/

/-- A value read from two bytes holds the second one only at width 2 (R42, R155). -/
theorem takeValueOf_first (wide : Bool) (first second : Byte) : (takeValueOf wide first second).first = first := by
  cases wide <;> rfl

theorem takeValueOf_second (wide : Bool) (first second : Byte) :
    (takeValueOf wide first second).second = if wide then second else 0 := by
  cases wide <;> rfl

/-- An EFFECT drive of selector 0-31 starts that effect (R45, R148). -/
theorem drive_starts {e : Engine} {v : TakeValue} {i : Fin 32} (ch : Fin 16) (h : v.first.toNat = i.val) :
    e.drive ch .effect v =
      some { e with channels := setAt e.channels ch (e.startEffect i v.second (e.channels.get ch)) } := by
  have hgood : goodSelector v.first = true := by simp [goodSelector, h]
  rw [drive_effect ch hgood]
  simp only [Engine.driveEffect, finOf_of_eq h]

/-- An EFFECT drive of selector 255 stops the channel (R45, R146). -/
theorem drive_stops {e : Engine} {v : TakeValue} (ch : Fin 16) (h : v.first = 255) :
    e.drive ch .effect v = some { e with channels := setAt e.channels ch (e.channels.get ch).stopped } := by
  have hgood : goodSelector v.first = true := by simp [goodSelector, h]
  have hnone : finOf 32 v.first.toNat = none := finOf_of_le (by rw [h]; decide)
  rw [drive_effect ch hgood]
  simp only [Engine.driveEffect, hnone]

section
variable {a : Args} {s : State} {ch : Fin 16} (v : PinView)

/-- A drive carried out answers with the channel as the drive leaves it (R155). -/
theorem serve_channelDrive {mode : DriveMode} {wide : Bool} {c : Channel} (hch : a.a0.toNat = ch.val)
    (hm : driveModeOf a.a1.toNat = some mode) (hw : wideOf a.a2.toNat = some wide)
    (hd : s.engine.drive ch mode (takeValueOf wide a.a3 a.a4) =
      some { s.engine with channels := setAt s.engine.channels ch c }) :
    serve .channelDrive v a s =
      .taken .ok { noData with d0 := a.a0, d1 := c.motion.code, d2 := c.level }
        (s.withEngine { s.engine with channels := setAt s.engine.channels ch c }) := by
  simp only [serve, reqChannelDrive, finOf_of_eq hch, hm, hw, hd, withIndex, withValue, setAt_get_self]

/-- A mode, a width or an EFFECT selector out of range is refused (R155). -/
theorem serve_channelDrive_badValue (hch : a.a0.toNat = ch.val)
    (hbad : 2 ≤ a.a1.toNat ∨ a.a2 = 0 ∨ 3 ≤ a.a2.toNat ∨ (a.a1 = 1 ∧ 32 ≤ a.a3.toNat ∧ a.a3.toNat ≤ 254)) :
    serve .channelDrive v a s = .refused .badValue noData := by
  simp only [serve, reqChannelDrive, finOf_of_eq hch, withIndex]
  cases hm : driveModeOf a.a1.toNat with
  | none => rfl
  | some mode =>
    cases hw : wideOf a.a2.toNat with
    | none => rfl
    | some wide =>
      have hmode : ¬2 ≤ a.a1.toNat := fun h2 => by simp [driveModeOf_none.mpr h2] at hm
      have hwidth : ¬(a.a2 = 0 ∨ 3 ≤ a.a2.toNat) := fun h => by
        simp [wideOf_none.mpr (show a.a2.toNat ≠ 1 ∧ a.a2.toNat ≠ 2 by bv_omega)] at hw
      obtain ⟨h1, hlow, hhigh⟩ : a.a1 = 1 ∧ 32 ≤ a.a3.toNat ∧ a.a3.toNat ≤ 254 := by tauto
      obtain rfl : DriveMode.effect = mode := by simpa [h1, driveModeOf] using hm
      have hfirst := takeValueOf_first wide a.a3 a.a4
      have hd : s.engine.drive ch .effect (takeValueOf wide a.a3 a.a4) = none :=
        drive_none ch (by rwa [hfirst]) (by rw [hfirst]; bv_omega)
      simp only [withValue, hd, refuse]

end

/-- A width byte of 1 or 2 is read (10.5). -/
theorem wideOf_of_width {x : Byte} (h : x = 1 ∨ x = 2) : wideOf x.toNat = some (x = 2 : Bool) := by
  rcases h with rfl | rfl <;> rfl

/-- Settles O51: each drive by its mode, its width and its selector, as a drive of the channel alone. -/
theorem channelDriveDrives : Obligations.ChannelDriveDrives := by
  intro tag token a s count index ch h hf hch c done
  have driven {mode : DriveMode} {c' : Channel} (hm : driveModeOf a.a1.toNat = some mode) (hw : a.a2 = 1 ∨ a.a2 = 2)
      (hd : s.engine.drive ch mode (takeValueOf (a.a2 = 2 : Bool) a.a3 a.a4) =
        some { s.engine with channels := setAt s.engine.channels ch c' }) :
      exec (.channelDrive tag token a) s = .next (done c') :=
    row_taken .channelDrive h hf (serve_channelDrive noPins hch hm (wideOf_of_width hw) hd)
  refine ⟨fun h1 hnow => ?_, fun h1 h2 h4 => ?_, fun i h1 hw hi => ?_, fun h1 hw h3 => ?_, fun hbad => ?_⟩
  · refine driven (by rw [h1]; rfl) (by tauto) ?_
    have hsecond : (takeValueOf (a.a2 = 2 : Bool) a.a3 a.a4).second = 0 := by
      rw [takeValueOf_second]
      rcases hnow with h2 | ⟨h2, h4⟩ <;> simp [*]
    rw [drive_level, driveLevel_eq, if_neg (not_not_intro hsecond), takeValueOf_first]
    rfl
  · refine driven (by rw [h1]; rfl) (.inr h2) ?_
    rw [drive_level, h2]
    exact congrArg (fun x => some { s.engine with channels := setAt s.engine.channels ch x }) (driveLevel_glide c a.a3 h4)
  · refine driven (by rw [h1]; rfl) hw ?_
    rw [drive_starts ch (by rwa [takeValueOf_first]), takeValueOf_second]
    simp only [decide_eq_true_eq]
    rfl
  · refine driven (by rw [h1]; rfl) hw ?_
    rw [drive_stops ch (by rw [takeValueOf_first, h3])]
    rfl
  · exact row_refused .channelDrive h hf (serve_channelDrive_badValue noPins hch hbad)

end Sys2Proof.Machine
end

section
/-! What the indicator engine's own operations keep of its invariant. -/

namespace Sys2Proof.Machine

/-- The indicator engine's invariant by its parts. -/
structure EngineFits (e : Engine) : Prop where
  ranges : ∀ i, rangeFits (e.effects.get i).first (e.effects.get i).count = true
  channels : ∀ ch, motionFits e (e.channels.get ch).motion = true

theorem engineInv_iff (s : State) : EngineInv s ↔ EngineFits s.engine :=
  ⟨fun ⟨ranges, channels⟩ => ⟨ranges, channels⟩, fun h => ⟨h.ranges, h.channels⟩⟩

/-! ## What a mode's fields hang on (R136, R137) -/

theorem motionFits_playing {e : Engine} {i : Fin 32} {position tick : Nat} {segStart : Byte} {runs : Option Byte} :
    motionFits e (.playing i position tick segStart runs) = true ↔
      position < (e.effects.get i).count.val ∧ tick < (e.segmentAt (e.effects.get i) position).length ∧ runs ≠ some 0 := by
  simp [motionFits, and_assoc]

/-- A mode hangs on the effect it plays and on that effect's segments alone. -/
theorem motionFits_congr {e e' : Engine} {m : Motion}
    (h : ∀ i, m.effect? = some i → e'.effects.get i = e.effects.get i ∧
      ∀ position < (e.effects.get i).count.val,
        e'.segmentAt (e.effects.get i) position = e.segmentAt (e.effects.get i) position)
    (hm : motionFits e m = true) : motionFits e' m = true := by
  cases m with
  | steady => rfl
  | gliding start target length elapsed => exact hm
  | playing i position tick segStart runs =>
    obtain ⟨heffect, hsegments⟩ := h i rfl
    obtain ⟨hpos, htick, hruns⟩ := motionFits_playing.mp hm
    rw [motionFits_playing, heffect, hsegments position hpos]
    exact ⟨hpos, htick, hruns⟩

/-! ## Starts, drives and fallback modes (R142, R144, R147, R148, R150) -/

section
variable {e : Engine}

/-- A segment begins at tick 0 of at least one (R136, R142). -/
theorem motionFits_beginSegment {i : Fin 32} {position : Nat} {runs : Option Byte}
    (hpos : position < (e.effects.get i).count.val) (hruns : runs ≠ some 0) (c : Channel) :
    motionFits e (e.beginSegment i position runs c).motion = true :=
  motionFits_playing.mpr ⟨hpos, segment_length_pos _, hruns⟩

theorem startRuns_ne_zero (repeatCount override : Byte) : startRuns repeatCount override ≠ some 0 := by
  unfold startRuns
  split
  · simpa
  · split
    · simp
    · simpa

/-- A start leaves the channel STEADY or at the first segment of a record that has one (R144, R148). -/
theorem motionFits_startEffect (i : Fin 32) (override : Byte) (c : Channel) :
    motionFits e (e.startEffect i override c).motion = true := by
  by_cases hempty : (e.effects.get i).count = 0
  · rw [startEffect_empty override c hempty]
    rfl
  · rw [startEffect_run override c hempty]
    refine motionFits_beginSegment ?_ (startRuns_ne_zero _ _) c
    exact Nat.pos_of_ne_zero fun hzero => hempty (Fin.ext hzero)

/-- A glide begins with all its ticks left (R147). -/
theorem motionFits_driveLevel (c : Channel) (v : TakeValue) : motionFits e (c.driveLevel v).motion = true := by
  rw [driveLevel_eq]
  split
  · rename_i hticks
    have hpos : 0 < v.second.toNat := by bv_omega
    simpa [motionFits] using hpos
  · rfl

theorem motionFits_driveEffect (v : TakeValue) (c : Channel) : motionFits e (e.driveEffect v c).motion = true := by
  unfold Engine.driveEffect
  split
  · exact motionFits_startEffect _ _ c
  · rfl

theorem motionFits_applyFallback {c : Channel} (hc : motionFits e c.motion = true) :
    motionFits e (e.applyFallback c).motion = true := by
  unfold Engine.applyFallback
  split
  · exact hc
  · rfl
  · exact motionFits_startEffect _ 0 c

/-! ## The tick (R140 to R144) -/

theorem motionFits_applyEndAction (action : EndAction) (c : Channel) :
    motionFits e (e.applyEndAction action c).motion = true := by
  cases action with
  | hold v => rfl
  | level v => rfl
  | chain i => exact motionFits_startEffect i 0 c

/-- A restart leaves a run to make, one fewer where they are counted (R143). -/
theorem motionFits_runEnd {i : Fin 32} (hcount : 0 < (e.effects.get i).count.val) (runs : Option Byte) (c : Channel) :
    motionFits e (e.runEnd i runs c).1.motion = true := by
  cases runs with
  | none => exact motionFits_beginSegment hcount (by simp) c
  | some n =>
    by_cases hmore : 2 ≤ n.toNat
    · rw [runEnd_again hmore]
      refine motionFits_beginSegment hcount (fun hzero => ?_) c
      have := Option.some.inj hzero
      bv_omega
    · rw [runEnd_over (by omega)]
      exact motionFits_applyEndAction _ c

theorem motionFits_segmentEnd {i : Fin 32} {position : Nat} {runs : Option Byte}
    (hpos : position < (e.effects.get i).count.val) (hruns : runs ≠ some 0) (c : Channel) :
    motionFits e (e.segmentEnd i position runs c).1.motion = true := by
  by_cases hnext : position + 1 < (e.effects.get i).count.val
  · rw [segmentEnd_next hnext]
    exact motionFits_beginSegment hnext hruns c
  · rw [segmentEnd_last (Nat.not_lt.mp hnext)]
    exact motionFits_runEnd (by omega) runs c

/-- A tick advances a channel within its mode's ranges, or to the start of those of its next one. -/
theorem motionFits_advance {c : Channel} (hc : motionFits e c.motion = true) : motionFits e (e.advance c).1.motion = true := by
  cases hm : c.motion with
  | steady => rwa [advance_steady hm]
  | gliding start target length elapsed =>
    by_cases hleft : elapsed + 1 < length.toNat
    · rw [advance_glides hm hleft]
      simpa [motionFits] using hleft
    · rw [advance_glideEnd hm (Nat.not_lt.mp hleft)]
      rfl
  | playing i position tick segStart runs =>
    obtain ⟨hpos, htick, hruns⟩ := motionFits_playing.mp (hm ▸ hc)
    by_cases hleft : tick + 1 < (e.segmentAt (e.effects.get i) position).length
    · rw [advance_follows hm hleft]
      exact motionFits_playing.mpr ⟨hpos, hleft, hruns⟩
    · rw [advance_segmentEnd hm (Nat.not_lt.mp hleft)]
      exact motionFits_segmentEnd hpos hruns _

end

/-! ## The channels -/

namespace EngineFits

theorem reset : EngineFits .reset := (engineInv_iff State.reset).mp engineInv_reset

variable {e : Engine}

/-- Channels may stand in any mode that fits the effect memory. -/
theorem withChannels (h : EngineFits e) {x : Vector Channel 16} (hx : ∀ ch, motionFits e (x.get ch).motion = true) :
    EngineFits { e with channels := x } where
  ranges := h.ranges
  channels ch := motionFits_congr (fun _ _ => ⟨rfl, fun _ _ => rfl⟩) (hx ch)

theorem setChannel (h : EngineFits e) (ch : Fin 16) {c : Channel} (hc : motionFits e c.motion = true) :
    EngineFits { e with channels := setAt e.channels ch c } := by
  refine h.withChannels fun ch' => ?_
  rw [setAt_get]
  split
  · exact hc
  · exact h.channels ch'

theorem drive (h : EngineFits e) {ch : Fin 16} {mode : DriveMode} {v : TakeValue} {e' : Engine}
    (hd : e.drive ch mode v = some e') : EngineFits e' := by
  cases mode with
  | level =>
    obtain rfl := Option.some.inj hd
    exact h.setChannel ch (motionFits_driveLevel _ v)
  | effect =>
    simp only [Engine.drive] at hd
    split at hd
    · obtain rfl := Option.some.inj hd
      exact h.setChannel ch (motionFits_driveEffect v _)
    · cases hd

/-- A tick's advance of one channel (R138). -/
theorem advance (h : EngineFits e) (ch : Fin 16) :
    EngineFits { e with channels := setAt e.channels ch (e.advance (e.channels.get ch)).1 } :=
  h.setChannel ch (motionFits_advance (h.channels ch))

theorem enterFallback (h : EngineFits e) : EngineFits e.enterFallback := by
  refine h.withChannels fun ch => ?_
  rw [ofFn_get]
  exact motionFits_applyFallback (h.channels ch)

/-! ## The effect memory (R152, R153) -/

/-- A record that is not in play is no channel's (R152). -/
theorem writeEffect (h : EngineFits e) {i : Fin 32} {r : EffectRecord} (hplay : e.inPlay i = false)
    (hr : rangeFits r.first r.count = true) : EngineFits { e with effects := setAt e.effects i r } where
  ranges k := by
    dsimp only
    rw [setAt_get]
    split
    · exact hr
    · exact h.ranges k
  channels ch := by
    refine motionFits_congr (fun k hk => ⟨setAt_get_of_ne _ _ fun hik => ?_, fun _ _ => rfl⟩) (h.channels ch)
    subst hik
    exact absurd ((inPlay_iff e i).mpr ⟨ch, hk⟩) (by simp [hplay])

/-- A position of a record in play is a segment in use (R136). -/
theorem segmentAt_inUse (h : EngineFits e) {ch : Fin 16} {i : Fin 32} (hi : (e.channels.get ch).motion.effect? = some i)
    {position : Nat} (hpos : position < (e.effects.get i).count.val) :
    e.segmentInUse (Fin.ofNat 128 ((e.effects.get i).first.val + position)) = true := by
  obtain ⟨j, hj, -⟩ := segmentAt_eq e (h.ranges i) hpos
  have hindex : Fin.ofNat 128 ((e.effects.get i).first.val + position) = j := by
    rw [← hj]
    exact Fin.ofNat_val_eq_self j
  rw [hindex]
  exact (segmentInUse_iff e j).mpr ⟨ch, i, hi, (covers_iff _ j).mpr (by omega)⟩

/-- A segment that is not in use is no playing channel's (R153). -/
theorem writeSegment (h : EngineFits e) {j : Fin 128} (huse : e.segmentInUse j = false) (g : Segment) :
    EngineFits { e with segments := setAt e.segments j g } where
  ranges := h.ranges
  channels ch := by
    refine motionFits_congr (e := e) (fun i hi => ⟨rfl, fun position hpos => ?_⟩) (h.channels ch)
    have hother : j ≠ Fin.ofNat 128 ((e.effects.get i).first.val + position) := by
      intro hj
      rw [hj, h.segmentAt_inUse hi hpos] at huse
      cases huse
    exact setAt_get_of_ne e.segments g hother

/-! ## BLOCK RESET (R160, R161) -/

/-- A channel's reset leaves it STEADY or as it was, and of no effect where the effect memory is reset. -/
theorem afterBlockReset_motion (channels effects : Bool) (c : Channel) :
    (c.afterBlockReset channels effects).motion = .steady ∨
      (c.afterBlockReset channels effects).motion = c.motion ∧ (effects = true → c.motion.effect? = none) := by
  unfold Channel.afterBlockReset
  split
  · exact .inl rfl
  · split
    · exact .inl rfl
    · rename_i hkept
      refine .inr ⟨rfl, fun heffects => ?_⟩
      cases hm : c.motion with
      | playing => exact absurd ⟨heffects, by rw [hm]; rfl⟩ hkept
      | _ => rfl

theorem blockReset (h : EngineFits e) (channels effects : Bool) :
    EngineFits
      { effects := if effects then Vector.replicate 32 .reset else e.effects
        segments := if effects then Vector.replicate 128 .reset else e.segments
        channels := Vector.ofFn fun ch => (e.channels.get ch).afterBlockReset channels effects } where
  ranges i := by
    cases effects with
    | false => exact h.ranges i
    | true => exact reset.ranges i
  channels ch := by
    rw [ofFn_get]
    obtain hsteady | ⟨hkept, hnone⟩ := afterBlockReset_motion channels effects (e.channels.get ch)
    · rw [hsteady]
      rfl
    · rw [hkept]
      refine motionFits_congr (fun i hi => ?_) (h.channels ch)
      cases effects with
      | false => simp [Engine.segmentAt]
      | true => simp [hnone rfl] at hi

end EngineFits

end Sys2Proof.Machine
end

section
/-! Which operations of the block leave the indicator engine as it is. -/

namespace Sys2Proof.Machine

/-! ## The queue and the contacts leave the engine -/

@[simp] theorem enqueueOnly_engine (b : ReportBody) (s : State) : (enqueueOnly b s).engine = s.engine := by
  rw [enqueueOnly_eq]

@[simp] theorem enqueueContact_engine (i : Fin 8) (active level : Bool) (s : State) :
    (enqueueContact i active level s).engine = s.engine := by
  rw [enqueueContact_eq]

theorem contactRemovals_engine (rs : List Report) (s : State) : (contactRemovals rs s).engine = s.engine := by
  induction rs generalizing s with
  | nil => rfl
  | cons r rs ih =>
    unfold contactRemovals
    split
    · rw [ih, contactRemoval_eq]
    all_goals exact ih s

theorem ackPair_engine (position seq : Byte) (s : State) : (ackPair position seq s).engine = s.engine := by
  unfold ackPair acknowledge
  split
  · split
    · rfl
    · exact contactRemovals_engine _ (s.withQueue _)
  · rfl

theorem ackList_engine (p : Payload) (s : State) : (ackList p s).engine = s.engine := by
  simp only [ackList, ackPair_engine]

theorem offer_engine (tag : Byte) (s : State) : (offer tag s).1.engine = s.engine := by
  unfold offer
  split
  · split <;> rfl
  · rfl

/-- The reports of a pass reach the queue and the contacts (R107, R113). -/
theorem completePass_engine (v : PinView) (p : Pass) (s : State) : (completePass v p s).engine = s.engine := by
  have reported (rs : List PassReport) (t : State) : (rs.foldl takePassReport t).engine = t.engine := by
    induction rs generalizing t with
    | nil => rfl
    | cons r rs ih =>
      rw [List.foldl_cons, ih]
      cases r with
      | key b => exact enqueueOnly_engine b t
      | contact i active level => exact enqueueContact_engine i active level t
  exact reported _ _

/-! ## Headers, marks and the sending-on leave the engine -/

@[simp] theorem mapFrameEvent_engine (s : State) : (mapFrameEvent s).engine = s.engine := by
  rw [mapFrameEvent_eq]

@[simp] theorem queueFrameEvent_engine (s : State) : (queueFrameEvent s).engine = s.engine := by
  rw [queueFrameEvent_eq]

@[simp] theorem tookChoice_engine (s : State) : (tookChoice s).engine = s.engine := rfl

@[simp] theorem resumeLoop_engine (s : State) : (resumeLoop s).engine = s.engine := rfl

@[simp] theorem frameEvent_engine (s : State) : (frameEvent s).engine = s.engine := by
  unfold frameEvent
  split_ifs <;> simp

@[simp] theorem returnFromFallback_engine (s : State) : (returnFromFallback s).engine = s.engine := by
  unfold returnFromFallback
  dsimp only
  split_ifs <;> simp

@[simp] theorem becomeUnaddressed_engine (s : State) : (becomeUnaddressed s).engine = s.engine := by
  rw [becomeUnaddressed_eq]

@[simp] theorem becomeReady_engine (position epoch : Byte) (s : State) : (becomeReady position epoch s).engine = s.engine := by
  rw [becomeReady_eq]

@[simp] theorem emptyCache_engine (s : State) : (emptyCache s).engine = s.engine := rfl

theorem enumerate_engine (hop epoch : Byte) (s : State) : (enumerate hop epoch s).1.engine = s.engine := by
  unfold enumerate
  split_ifs <;> simp

theorem ownEpochFrame_engine (s : State) : (ownEpochFrame s).engine = s.engine := by
  unfold ownEpochFrame
  split <;> simp

theorem normalHeader_engine (epoch : Byte) (s : State) : (normalHeader epoch s).engine = s.engine := by
  unfold normalHeader
  split_ifs
  · rfl
  · exact ownEpochFrame_engine s
  · simp

theorem headerArrives_engine (h : HeaderBytes) (s : State) : (headerArrives h s).engine = s.engine := by
  have arrived (k : FrameKind) (t : State) : (headerArrivalAt k h t).1.engine = t.engine := by
    cases k with
    | normal => exact normalHeader_engine h.epoch (queueHeader h.cycle t)
    | enumerate => exact enumerate_engine h.hop h.epoch (queueHeader h.cycle t)
  unfold headerArrives
  split
  · split
    · rfl
    · rfl
    · exact arrived _ (setFrame _ (goodHeader (bump ctrGoodFrames s)))
  · rfl
  · rfl

/-- What a mark ends early is counted, and nothing else (R5). -/
theorem closeFrame_engine (s : State) : (closeFrame s).engine = s.engine := by
  unfold closeFrame
  split
  · rfl
  · rfl
  · split <;> rfl
  · rfl

theorem finishSlot_engine (count : Byte) (index : Nat) (d : Option FrameKind) (b : SlotBytes) (r : SlotResult) :
    (finishSlot count index d b r).engine = r.1.engine := rfl

theorem startMarkArrives_engine (tail : List Byte) (s : State) : (startMarkArrives tail s).engine = s.engine :=
  closeFrame_engine s

theorem endMarkArrives_engine (tail : List Byte) (s : State) : (endMarkArrives tail s).engine = s.engine :=
  closeFrame_engine s

theorem markTimerExpires_engine (s : State) : (markTimerExpires s).engine = s.engine := by
  rw [markTimerExpires_eq]

/-! ## START and STOP leave the engine -/

theorem startNode_engine (s : State) : (startNode s).engine = s.engine := by
  have started : (startScanner s).engine = s.engine := by
    unfold startScanner
    split <;> rfl
  exact started

theorem stopNode_engine (s : State) : (stopNode s).engine = s.engine := by
  have left : (leaveLoop s).engine = s.engine := by rw [leaveLoop_eq]
  exact left

theorem broadcast_engine (r : Request) (s : State) : (broadcast r s).engine = s.engine := by
  unfold broadcast
  split
  · unfold broadcastStart
    split
    · split
      · rfl
      · exact startNode_engine s
    all_goals rfl
  · unfold broadcastStop
    split
    · exact stopNode_engine s
    all_goals rfl
  · rfl
  · rfl

end Sys2Proof.Machine
end

section
/-! Every operation of the block keeps the indicator engine's invariant, and so does every step. -/

namespace Sys2Proof.Machine

/-- If the engine's invariant holds in `s`, it holds in `t`. -/
def KeepsEngine (s t : State) : Prop := EngineFits s.engine → EngineFits t.engine

namespace KeepsEngine

/-- The invariant hangs on the engine alone. -/
theorem same {s t : State} (h : t.engine = s.engine) : KeepsEngine s t := by
  unfold KeepsEngine
  rw [h]
  exact id

theorem refl (s : State) : KeepsEngine s s := same rfl

theorem trans {s t u : State} (h : KeepsEngine s t) (h' : KeepsEngine t u) : KeepsEngine s u := h' ∘ h

theorem ite {s t u : State} {c : Prop} [Decidable c] (h : c → KeepsEngine s t) (h' : ¬c → KeepsEngine s u) :
    KeepsEngine s (if c then t else u) := by
  split
  · exact h ‹_›
  · exact h' ‹_›

/-- What acts on a condition only, and then keeps the invariant, keeps it. -/
theorem iteSelf {s t : State} {c : Prop} [Decidable c] (h : c → KeepsEngine s t) : KeepsEngine s (if c then t else s) :=
  ite h fun _ => refl s

/-! ## Ticks, takes, FALLBACK and resets -/

theorem advanceChannel (ch : Fin 16) (s : State) : KeepsEngine s (advanceChannel ch s) := by
  rw [advanceChannel_eq]
  exact fun h => h.advance ch

theorem tickChannels (s : State) : KeepsEngine s (tickChannels s) := by
  unfold Machine.tickChannels
  generalize List.finRange 16 = chs
  induction chs generalizing s with
  | nil => exact refl s
  | cons ch chs ih => exact (advanceChannel ch s).trans (ih _)

theorem applyTake (t : TakeEntry) (v : TakeValue) (s : State) : KeepsEngine s (applyTake t v s) := by
  unfold Machine.applyTake
  split
  · rename_i hd
    exact fun h => h.drive hd
  · exact refl s

theorem dataSlot (index : Nat) (p : Payload) (s : State) : KeepsEngine s (dataSlot index p s) := by
  unfold Machine.dataSlot
  split
  · split
    · exact ite (fun _ => refl s) fun _ => applyTake _ _ (storeLastValue _ _ s)
    all_goals exact refl s
  · exact refl s

theorem enterFallback (s : State) : KeepsEngine s (enterFallback s) := fun h => h.enterFallback

/-- BLOCK RESET naming CHANNELS or EFFECTS stops what plays before the effect memory goes (R160, R161, R188). -/
theorem blockReset (b : BlockSet) (s : State) : KeepsEngine s (blockReset b s) := by
  rw [blockReset_eq]
  exact fun h => h.blockReset b.channels b.effects

theorem settleReset (s : State) : KeepsEngine s (settleReset s) := iteSelf fun _ _ => .reset

/-! ## Requests -/

/-- A record that the request's bytes give has its range in the pool (R152). -/
theorem rangeFits_of_effectRecordOf {f0 f1 f2 f3 : Byte} {r : EffectRecord} (h : effectRecordOf f0 f1 f2 f3 = some r) :
    rangeFits r.first r.count = true := by
  simp only [effectRecordOf_eq, Option.bind_eq_bind, Option.bind_eq_some_iff] at h
  obtain ⟨first, -, count, -, endAction, -, notify, -, h⟩ := h
  split at h
  · obtain rfl := Option.some.inj h
    assumption
  · cases h

/-- EFFECT WRITE finds the record not in play, and its new range in the pool (R152). -/
theorem reqEffectWrite (a : Args) (s : State) : (reqEffectWrite a s).Takes fun _ t => KeepsEngine s t := by
  refine withIndex_takes fun i _ => withValue_takes fun r hr => require_takes fun hplay h => ?_
  exact h.writeEffect (by simpa using hplay) (rangeFits_of_effectRecordOf hr)

/-- SEGMENT WRITE finds the segment not in use (R153). -/
theorem reqSegmentWrite (a : Args) (s : State) : (reqSegmentWrite a s).Takes fun _ t => KeepsEngine s t :=
  withIndex_takes fun _ _ => require_takes fun huse h => h.writeSegment (by simpa using huse) _

/-- CHANNEL SET leaves the channel's mode (R156). -/
theorem reqChannelSet (a : Args) (s : State) : (reqChannelSet a s).Takes fun _ t => KeepsEngine s t :=
  withIndex_takes fun ch _ => withValue_takes fun _ _ h => h.setChannel ch (h.channels ch)

theorem reqChannelDrive (a : Args) (s : State) : (reqChannelDrive a s).Takes fun _ t => KeepsEngine s t :=
  withIndex_takes fun _ _ => withValue_takes fun _ _ => withValue_takes fun _ _ => withValue_takes fun _ hd h => h.drive hd

/-- Of the requests, BLOCK RESET and the engine's own touch the engine (9.11). -/
theorem serve (r : Request) (v : PinView) (a : Args) (s : State) : (serve r v a s).Takes fun _ t => KeepsEngine s t := by
  have kept : KeepsEngine s s := refl s
  cases r with
  | blockReset => exact withValue_takes fun b _ => blockReset b s
  | effectWrite => exact reqEffectWrite a s
  | segmentWrite => exact reqSegmentWrite a s
  | channelSet => exact reqChannelSet a s
  | channelDrive => exact reqChannelDrive a s
  | start =>
    refine require_takes fun _ => ?_
    split
    · trivial
    · exact same (startNode_engine s)
  | stop => exact require_takes fun _ => same (stopNode_engine s)
  | mapCommit =>
    refine require_takes fun _ => ?_
    split
    · trivial
    · exact kept
  | scanSet =>
    refine ite_takes (require_takes fun _ => require_takes fun _ => kept) (ite_takes ?_ trivial)
    exact withIndex_takes fun _ _ => withValue_takes fun _ _ => withValue_takes fun _ _ => require_takes fun _ => kept
  | info => exact ite_takes kept (ite_takes kept trivial)
  | status => exact ite_takes kept (ite_takes kept (ite_takes kept trivial))
  | counter => exact withIndex_takes fun n _ => withValue_takes fun _ _ => iteSelf (t := clearCounter n s) fun _ => kept
  | loopSet => exact require_takes fun _ => require_takes fun _ => kept
  | nodeReset | loopGet | resync | flush | contactsRead => exact kept
  | mapWrite => exact withIndex_takes fun _ _ => withValue_takes fun _ _ => require_takes fun _ => kept
  | mapRead => exact withIndex_takes fun _ _ => withValue_takes fun _ _ => ite_takes kept kept
  | lineWrite => exact require_takes fun _ => withIndex_takes fun _ _ => withValue_takes fun _ _ => kept
  | scanGet => exact ite_takes kept (ite_takes (withIndex_takes fun _ _ => kept) trivial)
  | lineRead | keysRead | effectRead | segmentRead => exact withIndex_takes fun _ _ => kept
  | channelGet => exact withIndex_takes fun _ _ => withValue_takes fun _ _ => kept
  | unknown _ => trivial

theorem addressed (position token : Byte) (r : Request) (v : PinView) (a : Args) (s : State) :
    KeepsEngine s (addressed position token r v a s).1 := by
  unfold Machine.addressed
  split
  · exact refl s
  · split
    · exact refl s
    · rename_i st d t hv
      have ht := serve r v a s
      rw [hv] at ht
      exact trans ht (ite (fun _ => refl t) fun _ => refl t)

theorem mgmtSlot (tag token : Byte) (r : Request) (v : PinView) (a : Args) (s : State) :
    KeepsEngine s (mgmtSlot tag token r v a s).1 := by
  unfold Machine.mgmtSlot
  split
  · split
    iterate 3 exact same (broadcast_engine r s)
    exact refl s
  · split
    · split
      iterate 2 exact addressed tag token r v a s
      all_goals exact refl s
    · exact refl s

/-! ## Slots -/

theorem dispatchSlot (k : SlotKind) (index : Nat) (b : SlotBytes) (v : PinView) (s : State) :
    KeepsEngine s (dispatchSlot k index b v s).1 := by
  cases k with
  | void | mgmtReply => exact refl s
  | data =>
    simp only [Machine.dispatchSlot]
    split
    · exact dataSlot index b.payload s
    · exact refl s
  | container =>
    simp only [Machine.dispatchSlot]
    split
    · exact same (offer_engine b.tag s)
    · exact refl s
  | ackList =>
    simp only [Machine.dispatchSlot]
    split
    · exact same (ackList_engine b.payload s)
    · exact refl s
  | mgmt => exact mgmtSlot _ _ _ v _ s

theorem judgeSlot (b : SlotBytes) (v : PinView) (kind : FrameKind) (index : Nat) (s : State) :
    KeepsEngine s (judgeSlot b v kind index s).1 := by
  unfold Machine.judgeSlot
  split
  · exact refl s
  · split
    · exact refl s
    · split
      · exact dispatchSlot _ index b v s
      · exact refl s

theorem slotArrives (b : SlotBytes) (v : PinView) (s : State) : KeepsEngine s (slotArrives b (Machine.judgeSlot b v) s) := by
  unfold Machine.slotArrives
  split
  · exact ite (fun _ => (judgeSlot b v _ _ s).trans (same (finishSlot_engine ..))) fun _ => same rfl
  · exact ite (fun _ => same rfl) fun _ => same rfl
  · exact same rfl
  · exact same rfl

/-! ## Commands -/

theorem exec_supply {c : Instr} (h : isSupplyCommand c = true) {s t : State} (he : exec c s = .next t) : KeepsEngine s t := by
  cases c with
  | powerOnReset | powerLoss =>
    obtain rfl := Host.Outcome.next.inj he
    exact fun _ => .reset
  | resetReleased | startUpComplete =>
    obtain rfl := Host.Outcome.next.inj he
    exact ite (fun _ => refl _) fun _ => refl _
  | pinReset pulse =>
    obtain ⟨rfl | rfl, -⟩ | rfl | rfl | ⟨rfl, -⟩ := execPinReset_cases he
    · exact fun _ => .reset
    · exact fun _ => .reset
    all_goals exact same rfl
  | _ => cases h

/-- What every command but those of the supply does to a node in operation keeps the engine's invariant. -/
theorem exec_operating {c : Instr} (h : isSupplyCommand c = false) :
    ∃ f : State → State, (∀ s, KeepsEngine s (f s)) ∧ ∀ s, exec c s = .next (whenOperating f s) := by
  cases hr : c.request? with
  | some r =>
    obtain ⟨b, v, hslot⟩ := exec_request_eq_slot hr
    exact ⟨_, fun s => (settleReset s).trans (slotArrives b v _), hslot⟩
  | none =>
    cases c with
    | startMark tail => exact ⟨_, fun s => (settleReset s).trans (same (startMarkArrives_engine tail _)), fun _ => rfl⟩
    | endMark tail => exact ⟨_, fun s => (settleReset s).trans (same (endMarkArrives_engine tail _)), fun _ => rfl⟩
    | headerArrival bytes => exact ⟨_, fun s => (settleReset s).trans (same (headerArrives_engine bytes _)), fun _ => rfl⟩
    | slotArrival b v => exact ⟨_, fun s => (settleReset s).trans (slotArrives b v _), fun _ => rfl⟩
    | nodeResetTakesPlace => exact ⟨_, settleReset, fun _ => rfl⟩
    | markTimerExpiry => exact ⟨_, fun s => same (markTimerExpires_engine s), fun _ => rfl⟩
    | silenceTimerExpiry => exact ⟨_, fun s => iteSelf fun _ => enterFallback s, fun _ => rfl⟩
    | outageTimerStep | timeoutGoBack | passStart =>
      refine ⟨_, fun s => ?_, fun _ => rfl⟩
      exact iteSelf fun _ => refl s
    | commitCarriedOut => exact ⟨_, fun s => iteSelf fun _ => same (mapFrameEvent_engine s), fun _ => rfl⟩
    | columnSettled v =>
      refine ⟨_, fun s => ?_, fun _ => rfl⟩
      split
      · exact iteSelf fun _ => refl s
      · exact refl s
    | passCompletion v =>
      refine ⟨_, fun s => ?_, fun _ => rfl⟩
      split
      · exact ite (fun _ => refl s) fun _ => same (completePass_engine v _ s)
      · exact refl s
    | indicatorTick => exact ⟨_, tickChannels, fun _ => rfl⟩
    | glideEnd ch | segmentEnd ch => exact ⟨_, fun s => iteSelf fun _ => advanceChannel ch s, fun _ => rfl⟩
    | pulseWidthPeriod => exact ⟨beginPeriod, fun s => same (State.withLines_engine s _), fun _ => rfl⟩
    | powerOnReset | pinReset | resetReleased | startUpComplete | powerLoss => cases h
    | _ => cases hr

theorem ofExec (c : Instr) {s t : State} (he : exec c s = .next t) : KeepsEngine s t := by
  cases hc : isSupplyCommand c with
  | true => exact exec_supply hc he
  | false =>
    obtain ⟨f, hf, hexec⟩ := exec_operating hc
    obtain rfl := Host.Outcome.next.inj ((hexec s).symm.trans he)
    exact iteSelf fun _ => hf s

end KeepsEngine

/-- Settles O60: the engine's invariant is its records in the pool and its channels in their modes' ranges, which every command keeps. -/
theorem stepKeepsTheEngine : Obligations.StepKeepsTheEngine := by
  refine step_keeps (P := EngineInv) (fun _ _ h => h) fun c s t hs he => ?_
  rw [engineInv_iff] at hs ⊢
  exact KeepsEngine.ofExec c he hs

end Sys2Proof.Machine
end

section
/-! Every command completes; a request's row as the arrival of its slot; the checks of code, state and index; INFO and LOOP GET. -/

namespace Sys2Proof.Machine

/-! ## Every command completes -/

theorem Moves.pending {s t : State} (h : Moves s t) : t.pending = s.pending := by
  refine h.keeps (P := fun u => u.pending = s.pending) (fun u w hm hu => ?_) rfl
  obtain ⟨-, -, hw⟩ := hm.supply
  exact hw.trans hu

/-- A pin reset answers a next state, recognised or not (R16). -/
theorem execPinReset_next (pulse : LowPulse) (s : State) : ∃ t, execPinReset pulse s = .next t := by
  unfold execPinReset
  split <;> exact ⟨_, rfl⟩

/-- The commands of the supply and the RESET pin complete, and the commands that wait outlast every reset (R15, R16). -/
theorem exec_supply_completes {c : Instr} (h : isSupplyCommand c = true) (s : State) :
    ∃ t, exec c s = .next t ∧ t.pending = s.pending := by
  cases c with
  | powerOnReset => exact ⟨_, rfl, rfl⟩
  | powerLoss => exact ⟨_, rfl, rfl⟩
  | resetReleased =>
    refine ⟨_, rfl, ?_⟩
    split <;> rfl
  | startUpComplete =>
    refine ⟨_, rfl, ?_⟩
    split <;> rfl
  | pinReset pulse =>
    obtain ⟨t, ht⟩ := execPinReset_next pulse s
    refine ⟨t, ht, ?_⟩
    obtain ⟨rfl | rfl, -⟩ | rfl | rfl | ⟨rfl, -⟩ := execPinReset_cases ht <;> rfl
  | _ => cases h

/-- Settles O2: the commands of the supply one by one, and every other command as an effect, whose moves leave the waiting commands. -/
theorem everyCommandCompletes : Obligations.EveryCommandCompletes := by
  intro c s
  cases hc : isSupplyCommand c with
  | true => exact exec_supply_completes hc s
  | false =>
    obtain ⟨f, -, hf⟩ := exec_effect hc
    exact ⟨_, hf s, (exec_moves hc (hf s)).pending⟩

/-! ## A request's row is its slot (entry 8) -/

/-- The request of a well-formed row is the one that its code names (R168). -/
theorem request_ofCode_of_wellFormed {r : Request} {tag token : Byte} {a : Args} {v : PinView}
    (h : (requestRow r tag token a v).wellFormed = true) : Request.ofCode r.code = r := by
  cases r with
  | unknown code => exact request_ofCode_unknown h
  | _ => exact request_ofCode_known _ (by decide)

/-- Settles O29: the slots and codes are those of 10.3 and 10.4 by definition, and a row carries the request that its slot's code
names. -/
theorem requestRowIsItsSlot : Obligations.RequestRowIsItsSlot := by
  refine ⟨⟨fun _ _ _ _ => rfl, fun _ _ _ _ => rfl, rfl, rfl, rfl⟩, fun r tag token a v s hw => ?_⟩
  exact (exec_requestRow hw s).trans (requestCommand_eq_slot tag token (request_ofCode_of_wellFormed hw) v a s)

/-! ## The checks of code, state and index (R167 to R170) -/

theorem isUnknownCode_iff (code : Byte) : isUnknownCode code = true ↔ code ∉ Request.known.map Request.code := by
  simp only [isUnknownCode, List.all_eq_true, bne_iff_ne, List.mem_map, not_exists, not_and]

theorem withIndex_outOfRange {n x : Nat} (h : n ≤ x) (k : Fin n → Verdict) :
    withIndex (finOf n x) k = .refused .badIndex noData := by
  rw [finOf_of_le h]
  rfl

theorem require_fails {ok : Bool} (h : ok = false) (st : Status) (k : Verdict) : require ok st k = .refused st noData := by
  rw [h]
  rfl

section
variable {r : Request} {a : Args} {s : State} {v : PinView}

/-- A code that is none of the 27 is refused with UNKNOWN_REQUEST, so a row refused with another status carries a known request (R168). -/
theorem wellFormed_of_refused {st : Status} {d : ReplyData} (hv : serve r v a s = .refused st d) (hst : st ≠ .unknownRequest)
    (tag token : Byte) : (requestRow r tag token a v).wellFormed = true := by
  cases r with
  | unknown code =>
    obtain ⟨h, -⟩ := Verdict.refused.inj hv
    exact absurd h.symm hst
  | _ => rfl

/-- A row refused after the check of its code is answered with the refusal (R166, R167). -/
theorem exec_requestRow_refused {tag token count : Byte} {index : Nat} {st : Status} {d : ReplyData}
    (h : s.serves tag count index) (hf : s.fresh token r.code a) (hst : st ≠ .unknownRequest)
    (hv : serve r v a s = .refused st d) :
    exec (requestRow r tag token a v) s = .next (s.refusal count index tag token st d) :=
  (exec_requestRow (wellFormed_of_refused hv hst tag token) s).trans (row_refused r h hf hv)

/-- LINE WRITE's gate is READY with the scanner stopped (R169). -/
theorem serve_lineWrite_wrongState (h : s.node.state = .running ∨ s.scanner.enabled = true) :
    serve .lineWrite v a s = .refused .wrongState noData := by
  refine require_fails ?_ _ _
  rcases h with h | h <;> simp [h]

theorem serve_lineWrite_badIndex (hs : s.node.state = .ready) (he : s.scanner.enabled = false) (h : 24 ≤ a.a0.toNat) :
    serve .lineWrite v a s = .refused .badIndex noData := by
  simp only [serve, reqLineWrite, require, hs, he, decide_true, Bool.not_false, Bool.and_self, if_true, withIndex_outOfRange h]

/-- In part CONTACT the index of SCAN SET and SCAN GET is a1 (R170). -/
theorem serve_scan_badIndex (hr : r = .scanSet ∨ r = .scanGet) (h0 : a.a0 = 1) (h : 8 ≤ a.a1.toNat) :
    serve r v a s = .refused .badIndex noData := by
  have hpart : ¬a.a0 = 0 := by simp [h0]
  rcases hr with rfl | rfl
  · simp only [serve, reqScanSet, if_neg hpart, if_pos h0, reqScanSetContact, withIndex_outOfRange h]
  · simp only [serve, reqScanGet, if_neg hpart, if_pos h0, withIndex_outOfRange h]

end

/-- Settles O31: each gate is its request's first check, and each index the next one. -/
theorem checksOfCodeStateAndIndex : Obligations.ChecksOfCodeStateAndIndex := by
  refine fun tag token a v s count index h => ⟨isUnknownCode_iff, fun code hcode hf => ?_, fun r hf hgate => ?_,
    fun r hf hindex => ?_⟩
  · have hrow := row_refused (.unknown code) (v := noPins) h hf rfl
    rwa [← request_ofCode_unknown hcode] at hrow
  · refine exec_requestRow_refused h hf (by decide) ?_
    obtain ⟨rfl, hs⟩ | ⟨rfl, hs⟩ | ⟨rfl, hs⟩ | ⟨rfl, hs⟩ := hgate
    iterate 3 exact require_fails (by simp [hs]) _ _
    exact serve_lineWrite_wrongState hs
  · refine exec_requestRow_refused h hf (by decide) ?_
    obtain ⟨rfl, hi⟩ | ⟨rfl | rfl, hi⟩ | ⟨rfl, hi⟩ | ⟨rfl, hs, he, hi⟩ | ⟨hr, h0, hi⟩ | ⟨rfl, hi⟩ | ⟨rfl | rfl, hi⟩ |
      ⟨rfl | rfl, hi⟩ | ⟨rfl | rfl | rfl, hi⟩ := hindex
    iterate 4 exact withIndex_outOfRange hi _
    · exact serve_lineWrite_badIndex hs he hi
    · exact serve_scan_badIndex hr h0 hi
    all_goals exact withIndex_outOfRange hi _

/-! ## INFO and LOOP GET (R178, R190) -/

section
variable {a : Args} (s : State) (v : PinView)

theorem serve_info_page0 (h : a.a0.toNat = 0) :
    serve .info v a s = .taken .ok { d0 := 0x6B, d1 := 0x0C, d2 := 0x18, d3 := 0x01, d4 := 24 } s := by
  have ha : a.a0 = 0 := BitVec.eq_of_toNat_eq h
  simp only [serve, reqInfo, if_pos ha]

theorem serve_info_page1 (h : a.a0.toNat = 1) :
    serve .info v a s = .taken .ok { d0 := 48, d1 := 32, d2 := 16, d3 := 32, d4 := 128 } s := by
  have ha : a.a0 = 1 := BitVec.eq_of_toNat_eq h
  have h0 : ¬a.a0 = 0 := by simp [ha]
  simp only [serve, reqInfo, if_neg h0, if_pos ha]

theorem serve_info_badPage (h : 2 ≤ a.a0.toNat) : serve .info v a s = .refused .badValue noData := by
  have h0 : ¬a.a0 = 0 := by rintro h0; simp [h0] at h
  have h1 : ¬a.a0 = 1 := by rintro h1; simp [h1] at h
  simp only [serve, reqInfo, if_neg h0, if_neg h1, refuse]

/-- LOOP GET has no check and changes nothing: it is taken with the settings as they stand (R190). -/
theorem serve_loopGet : serve .loopGet v a s = .taken .ok (loopData s) s := rfl

end

/-- Settles O34: each page by its selector. -/
theorem infoGivesTheCapacities : Obligations.InfoGivesTheCapacities :=
  fun _ _ _ s _ _ h hf => ⟨fun h0 => row_taken .info h hf (serve_info_page0 s noPins h0),
    fun h1 => row_taken .info h hf (serve_info_page1 s noPins h1),
    fun h2 => row_refused .info h hf (serve_info_badPage s noPins h2)⟩

/-- Settles O40: the request is taken whatever its arguments, and its reply shows the settings. -/
theorem loopGetShowsFiveSettings : Obligations.LoopGetShowsFiveSettings :=
  fun _ _ _ s _ _ h hf => row_taken .loopGet h hf (serve_loopGet s noPins)

end Sys2Proof.Machine
end

section
/-! The check finds any one changed byte: each step of its register can be undone. -/

namespace Sys2Proof.Machine

/-! ## The check (R192) -/

theorem crcBit_eq (r : Byte) : crcBit r = if r[7] then (r <<< 1) ^^^ 0x07 else r <<< 1 := rfl

/-- Bit 0 after a step tells whether the polynomial was combined in, since the shift leaves it 0. -/
theorem crcBit_bit_zero (r : Byte) : (crcBit r)[0] = r[7] := by
  rw [crcBit_eq]
  split <;> simp [*]

/-- The shift moves every bit but bit 7. -/
theorem bit_eq_of_shiftLeft_one_eq {q r : Byte} (h : q <<< 1 = r <<< 1) {i : Nat} (hi : i < 7) : q[i] = r[i] := by
  have hbit := congrArg (·.getLsbD (i + 1)) h
  simpa [show i + 1 < 8 by omega] using hbit

/-- A step can be undone: bit 0 of the result is the old bit 7, and the shift keeps the other bits. -/
theorem crcBit_injective : Function.Injective crcBit := by
  intro q r h
  have htop : q[7] = r[7] := by
    rw [← crcBit_bit_zero, ← crcBit_bit_zero, h]
  have hshift : q <<< 1 = r <<< 1 := by
    rw [crcBit_eq, crcBit_eq, htop] at h
    split at h
    · exact (BitVec.xor_left_inj _).mp h
    · exact h
  refine BitVec.eq_of_getElem_eq fun i hi => ?_
  obtain hlow | rfl : i < 7 ∨ i = 7 := by omega
  · exact bit_eq_of_shiftLeft_one_eq hshift hlow
  · exact htop

theorem crcByte_eq_iterate (r b : Byte) : crcByte r b = crcBit^[8] (r ^^^ b) := rfl

theorem crcByte_injective_left (b : Byte) : Function.Injective (crcByte · b) := fun _ _ h =>
  (BitVec.xor_left_inj _).mp (crcBit_injective.iterate 8 h)

theorem crcByte_injective_right (r : Byte) : Function.Injective (crcByte r) := fun _ _ h =>
  (BitVec.xor_right_inj _).mp (crcBit_injective.iterate 8 h)

/-- Two different register values stay different over the same bytes. -/
theorem foldl_crcByte_injective (bytes : List Byte) : Function.Injective (bytes.foldl crcByte) := by
  induction bytes with
  | nil => exact Function.injective_id
  | cons b bytes ih => exact ih.comp (crcByte_injective_left b)

/-- A changed byte makes the register differ where it is taken in, and the bytes after it keep it different. -/
theorem foldl_crcByte_set_ne (bytes : List Byte) (r : Byte) {i : Nat} {x : Byte} (hi : i < bytes.length)
    (hx : bytes[i] ≠ x) : (bytes.set i x).foldl crcByte r ≠ bytes.foldl crcByte r := by
  induction bytes generalizing r i with
  | nil => exact absurd hi (Nat.not_lt_zero i)
  | cons b bytes ih =>
    cases i with
    | zero => exact fun h => hx (crcByte_injective_right r (foldl_crcByte_injective bytes h)).symm
    | succ i => exact ih (crcByte r b) (Nat.lt_of_succ_lt_succ hi) hx

theorem crc8_append_singleton (bytes : List Byte) (b : Byte) :
    crc8 (bytes ++ [b]) = crcBit^[8] (crc8 bytes ^^^ b) := by
  rw [crc8, List.foldl_append, ← crc8, List.foldl_cons, List.foldl_nil, crcByte_eq_iterate]

/-- Settles O52: the register is a fold of steps that can be undone, and its parts are the bytes that R192 names. -/
theorem checkFindsOneChangedByte : Obligations.CheckFindsOneChangedByte :=
  ⟨⟨rfl, crc8_append_singleton, fun _ => rfl, fun _ _ _ => rfl⟩,
    fun bytes _ _ hi hx => foldl_crcByte_set_ne bytes 0xFF hi hx⟩

end Sys2Proof.Machine
end

section
/-! One step: the front command runs on the queue's rest, and an empty queue idles. -/

namespace Sys2Proof.Machine

/-! ## The step by its queue (entry 2) -/

theorem step_of_pending_nil {s : State} (h : s.pending = []) : step s = .next s := by
  rw [step, h]

theorem step_of_pending_cons {s : State} {c : Instr} {rest : List Instr} (h : s.pending = c :: rest) :
    step s = exec c (s.withPending rest) := by
  rw [step, h]

/-- Settles O1: an equation for each form of the queue. -/
theorem stepRunsTheFrontCommand : Obligations.StepRunsTheFrontCommand :=
  ⟨fun _ _ _ => step_of_pending_cons, fun _ => step_of_pending_nil⟩

end Sys2Proof.Machine
end
